-- ==== Sys2Proof/Word.lean ====
section
/-! DEFINITION. The two widths of the engine (spec/00_scope.md R5): 8-bit data and 16-bit addresses. -/

namespace Sys2Proof

/-- Data width: A, X, Y, SP, P and a memory cell are 8 bits (R5, R20). -/
abbrev Byte := BitVec 8

/-- Address and PC width: 16 bits (R5). Arithmetic on it wraps modulo 65,536 (R51). -/
abbrev Word := BitVec 16

end Sys2Proof
end

