-- ==== Sys2Proof/Machine/Bits.lean ====
section
/-! DEFINITION. Byte order, extension and address arithmetic on bytes and words (spec/00_scope.md R7, R8;
spec/20_memory.md R55). -/

namespace Sys2Proof.Machine

/-- `hi:lo`, the 16-bit value `hi * 256 + lo` (R7). -/
def hiLo (hi lo : Byte) : Word := hi ++ lo

/-- `w[7:0]` (R7). -/
def lowByte (w : Word) : Byte := w.extractLsb' 0 8

/-- `w[15:8]` (R7). -/
def highByte (w : Word) : Byte := w.extractLsb' 8 8

/-- `zext_16(v)`: the byte read as a 16-bit value (R8). -/
def zext16 (v : Byte) : Word := v.setWidth 16

/-- `sext_16(v)`: the two's-complement sign extension to 16 bits (R8, R86). -/
def sext16 (v : Byte) : Word := v.signExtend 16

end Sys2Proof.Machine
end

