-- ==== Sys2Proof/Config.lean ====
section
/-! DEFINITION. The implementation parameters of spec/00_scope.md R5 that are addresses or reset values. The engine
leaves no value open (spec/93_implementation_defined.md: "No behaviour of this engine is undefined or unpredictable"),
so there is no free value here; where that file offers a parameter, the spec's default is fixed (notes/assumptions/16.md). LAUNCH and MAX_STEPS, the two OPEN parameters of spec/92_eei_decisions.md (D24, D25), are
arguments of the definitions that use them (Machine/Session.lean). -/

namespace Sys2Proof.Config

/-- The stack page begins at 0x0100 (R5, R24): a stack address is this plus SP. -/
def stackBase : Word := 0x0100#16

/-- The IRQ/BRK vector, low byte at 0xFFFE and high byte at 0xFFFF (R5, R61), read by BRK. -/
def irqVector : Word := 0xFFFE#16

/-- The NMI vector (R5): ordinary memory, which the engine never reads as a vector (R265). -/
def nmiVector : Word := 0xFFFA#16

/-- The reset vector (R5): ordinary memory, which the engine never reads as a vector (R265, R291). -/
def resetVector : Word := 0xFFFC#16

/-- SP after reset: "stack pointer at 0xFF (stack empty, grows downward)" (R24, R41). -/
def resetSp : Byte := 0xFF#8

/-- PC after reset: "PC at 0" (R25, R41, R291). -/
def resetPc : Word := 0x0000#16

/-- The number of cells of memory (R5, R50). -/
def memorySize : Nat := 65536

end Sys2Proof.Config
end

