-- ==== Sys2Proof/Machine/State.lean ====
section
/-! DEFINITION. The architectural state of spec/10_state.md R20, "exactly the tuple (Mem, A, X, Y, SP, PC, N, V, B, D, I,
Z, C)", the reset state (R41, spec/70_reset_and_hazards.md R290), and the reasons a step can stop. -/

namespace Sys2Proof.Machine

/-- The 65,536-byte memory (R39, R50) as the list of its cells that are not 0x00, addresses strictly rising
(`Memory.wf`). An address not listed reads 0x00, the reset value of every cell (R41, R52). The representation is a DESIGN
CHOICE, safe (notes/assumptions/10.md). -/
abbrev Memory := List Host.Cell

/-- The architectural state (R20). Nothing else is state (R40): no interrupt line, no mode, no counter. -/
structure State where
  /-- accumulator A (R21) -/
  a : Byte
  /-- index register X (R22) -/
  x : Byte
  /-- index register Y (R23) -/
  y : Byte
  /-- stack pointer SP, an offset into the stack page (R24) -/
  sp : Byte
  /-- program counter PC: at the start of a step, the address of the opcode byte (R25) -/
  pc : Word
  /-- Negative (R28) -/
  n : Bool
  /-- Overflow (R29) -/
  v : Bool
  /-- Break, a stored flag (R30) -/
  b : Bool
  /-- Decimal, stored and never consulted by arithmetic (R31) -/
  d : Bool
  /-- Interrupt-disable, stored; it masks nothing (R32, R264) -/
  i : Bool
  /-- Zero (R33) -/
  z : Bool
  /-- Carry (R34) -/
  c : Bool
  /-- memory (R39) -/
  mem : Memory
  deriving DecidableEq, Repr

/-- The faults of the engine: none. "The engine raises no synchronous exception", "Every step ends in a next state"
(spec/60_exceptions.md R260, R261), so the type has no constructor and no step can be a fault (notes/assumptions/11.md). -/
inductive Fault
  deriving DecidableEq, Repr

/-- The refusals of the model. -/
inductive Refusal where
  /-- Raised by an arm of `exec` whose instruction has no meaning yet; safe. Every instruction has its meaning, so no arm
  raises it. -/
  | notModelled (mnemonic : String)
  deriving DecidableEq, Repr

/-- What a meaning answers. -/
abbrev Result := Host.Outcome State Fault Refusal

/-- The state right after reset (R41, R290): memory zero, A = X = Y = 0, SP = 0xFF, PC = 0, all flags 0. -/
def State.reset : State :=
  { a := 0, x := 0, y := 0, sp := Config.resetSp, pc := Config.resetPc,
    n := false, v := false, b := false, d := false, i := false, z := false, c := false,
    mem := [] }

end Sys2Proof.Machine
end

