-- ==== Sys2Proof/Machine/Flags.lean ====
section
/-! DEFINITION. The flags: their single updates, SetNZ (spec/10_state.md R36), the status byte P (R26, R27), and the flag
computations that instructions share: the adder (spec/41_arithmetic.md R130) and the comparator (spec/43_compare.md R170). -/

namespace Sys2Proof.Machine

/-! Each update writes its own flag and no other (R35). -/

/-- `N <- f` -/
def State.setN (s : State) (f : Bool) : State := { s with n := f }
/-- `V <- f` -/
def State.setV (s : State) (f : Bool) : State := { s with v := f }
/-- `B <- f` -/
def State.setB (s : State) (f : Bool) : State := { s with b := f }
/-- `D <- f` -/
def State.setD (s : State) (f : Bool) : State := { s with d := f }
/-- `I <- f` -/
def State.setI (s : State) (f : Bool) : State := { s with i := f }
/-- `Z <- f` -/
def State.setZ (s : State) (f : Bool) : State := { s with z := f }
/-- `C <- f` -/
def State.setC (s : State) (f : Bool) : State := { s with c := f }

/-- `SetNZ(v)`: `Z <- (v = 0); N <- v[7]` (R36). -/
def State.setNZ (s : State) (v : Byte) : State := { s with z := v == 0, n := v.msb }

/-- Seven flags as one byte, `N<<7 | V<<6 | B<<4 | D<<3 | I<<2 | Z<<1 | C`, bit 5 as 0 (R26, R27). The bit positions and
bit 5 are UNVERIFIED (the spec's own decisions D1, D2; notes/assumptions/2.md). -/
def packP (n v b d i z c : Bool) : Byte :=
  BitVec.ofBool n ++ BitVec.ofBool v ++ 0#1 ++ BitVec.ofBool b ++
  BitVec.ofBool d ++ BitVec.ofBool i ++ BitVec.ofBool z ++ BitVec.ofBool c

/-- The status byte P (R26). -/
def State.p (s : State) : Byte := packP s.n s.v s.b s.d s.i s.z s.c

/-- Writing P from a byte sets each of the seven flags from its bit and ignores bit 5 (R27). -/
def State.setP (s : State) (p : Byte) : State :=
  { s with
    n := p.getLsbD 7, v := p.getLsbD 6, b := p.getLsbD 4, d := p.getLsbD 3,
    i := p.getLsbD 2, z := p.getLsbD 1, c := p.getLsbD 0 }

/-- The 8-bit adder with carry, `ADD8(a, b, cin) -> (r, cout, v)` (R130): carry out when the exact sum exceeds 255,
overflow when the operands' bits 7 agree and the result's differs. -/
def add8 (a b : Byte) (cin : Bool) : Byte × Bool × Bool :=
  let sum := a.toNat + b.toNat + cin.toNat
  let r := BitVec.ofNat 8 sum
  (r, decide (255 < sum), a.msb == b.msb && r.msb != a.msb)

/-- `COMPARE(r, m)` (R170): C when r >= m unsigned, Z when equal, N bit 7 of the difference; V and every register as
before. N from the difference, and V unchanged, are UNVERIFIED (the spec's decision D9; notes/assumptions/6.md). -/
def State.compare (s : State) (r m : Byte) : State :=
  { s with c := decide (m.toNat ≤ r.toNat), z := r == m, n := (r - m).msb }

end Sys2Proof.Machine
end

