-- ==== Sys2Proof/Machine/Ops.lean ====
section
/-! DEFINITION. The named operations over memory and registers: byte and word access (spec/20_memory.md R52, R53), the
register updates, the stack primitives (spec/45_stack_subroutine_interrupt.md R200 to R203), and trap entry and return
(spec/60_exceptions.md R267, R268). Every one is total (R261). -/

namespace Sys2Proof.Machine

/-! ### Memory as a list of cells -/

/-- The byte at an address: the first cell listed for it, or 0x00 (R41, R52). -/
def Memory.read : Memory → Nat → Byte
  | [], _ => 0
  | (k, w) :: rest, a => if k = a then w else Memory.read rest a

/-- The list without any cell for the address. -/
def Memory.erase (m : Memory) (a : Nat) : Memory := m.filter fun c => c.1 != a

/-- Put a cell before the first cell of a higher address. -/
def Memory.insert : Memory → Nat → Byte → Memory
  | [], a, w => [(a, w)]
  | (k, u) :: rest, a, w =>
    if a < k then (a, w) :: (k, u) :: rest else (k, u) :: Memory.insert rest a w

/-- Write a byte, keeping the canonical form: a cell that becomes 0x00 is not listed. -/
def Memory.write (m : Memory) (a : Nat) (w : Byte) : Memory :=
  if w = 0 then m.erase a else (m.erase a).insert a w

/-- Every address is at least `lo` and above the one before it, below 65,536, and no listed byte is 0x00. -/
def Memory.wfFrom : Nat → Memory → Bool
  | _, [] => true
  | lo, (k, w) :: rest =>
    decide (lo ≤ k) && decide (k < Config.memorySize) && w != 0 && Memory.wfFrom (k + 1) rest

/-- The canonical form: addresses strictly rising and in the address space, no cell equal to what an unlisted one reads. -/
def Memory.wf (m : Memory) : Bool := Memory.wfFrom 0 m

/-! ### Access primitives -/

/-- `MemRead(a, 1)` (R52); `a` is already modulo 65,536 (R51). -/
def State.readByte (s : State) (a : Word) : Byte := Memory.read s.mem a.toNat

/-- `MemRead(a, 2)`, little-endian, the second byte at `a + 1` modulo 65,536 (R53); the wrap at the top of memory is
UNVERIFIED (the spec's decision D16; notes/assumptions/7.md). -/
def State.readWord (s : State) (a : Word) : Word := hiLo (s.readByte (a + 1)) (s.readByte a)

/-- `MemWrite(a, 1, v)`: nothing else changes (R52). -/
def State.writeByte (s : State) (a : Word) (v : Byte) : State := { s with mem := Memory.write s.mem a.toNat v }

/-- Write bytes at increasing addresses modulo 65,536, in order (R294). -/
def State.writeBytes (s : State) (a : Word) : List Byte → State
  | [] => s
  | v :: rest => (s.writeByte a v).writeBytes (a + 1) rest

/-! ### Registers -/

/-- `A <- v` -/
def State.setA (s : State) (v : Byte) : State := { s with a := v }
/-- `X <- v` -/
def State.setX (s : State) (v : Byte) : State := { s with x := v }
/-- `Y <- v` -/
def State.setY (s : State) (v : Byte) : State := { s with y := v }
/-- `SP <- v` -/
def State.setSp (s : State) (v : Byte) : State := { s with sp := v }
/-- `PC <- w` -/
def State.setPc (s : State) (w : Word) : State := { s with pc := w }

/-- Move PC past `k` instruction bytes, modulo 65,536 (R25, R103). -/
def State.advance (s : State) (k : Nat) : State := { s with pc := s.pc + BitVec.ofNat 16 k }

/-! ### The stack -/

/-- The true address of stack offset `sp`: `0x0100 + sp` (R24). -/
def stackAddr (sp : Byte) : Word := Config.stackBase + zext16 sp

/-- `Push(v)`: write at the stack address, then SP moves down, wrapping in the page (R200). That the write comes first is
UNVERIFIED (the spec's decision D3; notes/assumptions/3.md). -/
def State.push (s : State) (v : Byte) : State := (s.writeByte (stackAddr s.sp) v).setSp (s.sp - 1)

/-- `Pop()`: SP moves up, wrapping in the page, then the byte at the new stack address is read (R201). -/
def State.pop (s : State) : Byte × State := (s.readByte (stackAddr (s.sp + 1)), s.setSp (s.sp + 1))

/-- `PushWord(w)`: low byte first, then high byte (R202). -/
def State.pushWord (s : State) (w : Word) : State := (s.push (lowByte w)).push (highByte w)

/-- `PopWord()`: high byte first, then low byte (R203). The order is UNVERIFIED (the spec's decision D4 on its conflict
C1; notes/assumptions/3.md). -/
def State.popWord (s : State) : Word × State :=
  let hi := s.pop
  let lo := hi.2.pop
  (hiLo hi.1 lo.1, lo.2)

/-! ### Trap entry and return -/

/-- Trap entry (R211, R267), from a state whose PC is the return address: B is set, the return address and then the status
byte are pushed, and PC is loaded from the IRQ/BRK vector. No other flag changes, I and D included: UNVERIFIED (the spec's
decision D7; notes/assumptions/4.md). -/
def State.enterTrap (s : State) : State :=
  let s1 := s.setB true
  let s2 := s1.pushWord s1.pc
  let s3 := s2.push s2.p
  s3.setPc (s3.readWord Config.irqVector)

/-- Trap return (R212, R268): the status byte is pulled and sets all seven flags, then PC is pulled, with no correction. -/
def State.returnFromTrap (s : State) : State :=
  let p := s.pop
  let w := (p.2.setP p.1).popWord
  w.2.setPc w.1

end Sys2Proof.Machine
end

