-- ==== Sys2Proof/Syntax.lean ====
section
/-! DEFINITION. The instructions: one constructor per mnemonic of spec/opcode_table.json, its addressing mode the
operand (spec/30_encoding.md R88: "Every mnemonic has one rule; the rule covers all of its modes"), so that each of the
256 rows of the table is one constructor applied to one mode. JMP, whose two modes have a rule each (R235, R236), has two
constructors (notes/assumptions/15.md). Operand bytes are already assembled (R83 to R86): a `Byte` is the operand byte nn, a `Word` is hh:ll. -/

namespace Sys2Proof

/-- The addressing modes that have an effective address (R106 to R113). -/
inductive MemMode where
  /-- zero-page, `$nn` (R106) -/
  | zp (nn : Byte)
  /-- zero-page,X, `$nn,X` (R107) -/
  | zpx (nn : Byte)
  /-- zero-page,Y, `$nn,Y` (R108) -/
  | zpy (nn : Byte)
  /-- absolute, `$hhll` (R109) -/
  | abs (hhll : Word)
  /-- absolute,X, `$hhll,X` (R110) -/
  | absx (hhll : Word)
  /-- absolute,Y, `$hhll,Y` (R111) -/
  | absy (hhll : Word)
  /-- (indirect,X), `($nn,X)` (R112) -/
  | indx (nn : Byte)
  /-- (indirect),Y, `($nn),Y` (R113) -/
  | indy (nn : Byte)
  deriving DecidableEq, Repr

/-- The operand of an instruction that consumes a value (R118). -/
inductive Operand where
  /-- immediate, `#nn` (R105) -/
  | imm (nn : Byte)
  /-- the byte at the mode's effective address -/
  | mem (m : MemMode)
  deriving DecidableEq, Repr

/-- The operand of a shift or rotate (R154). -/
inductive ShiftOperand where
  /-- the accumulator, `A` (R116) -/
  | acc
  /-- the byte at the mode's effective address, read and written back (R119) -/
  | mem (m : MemMode)
  deriving DecidableEq, Repr

/-- The instruction set, in the order of the spec's families (files 41 to 48). -/
inductive Instr where
  -- 41_arithmetic.md
  /-- add with carry (R131) -/
  | adc (o : Operand)
  /-- subtract with borrow (R132) -/
  | sbc (o : Operand)
  /-- increment memory (R133) -/
  | inc (m : MemMode)
  /-- decrement memory (R134) -/
  | dec (m : MemMode)
  /-- increment X (R135) -/
  | inx
  /-- increment Y (R136) -/
  | iny
  /-- decrement X (R137) -/
  | dex
  /-- decrement Y (R138) -/
  | dey
  -- 42_bitwise_shift.md
  /-- bitwise AND into A (R150) -/
  | and (o : Operand)
  /-- bitwise OR into A (R151) -/
  | ora (o : Operand)
  /-- bitwise exclusive OR into A (R152) -/
  | eor (o : Operand)
  /-- test bits of memory against A (R153) -/
  | bit (m : MemMode)
  /-- arithmetic shift left (R155) -/
  | asl (o : ShiftOperand)
  /-- logical shift right (R156) -/
  | lsr (o : ShiftOperand)
  /-- rotate left through carry (R157) -/
  | rol (o : ShiftOperand)
  /-- rotate right through carry (R158) -/
  | ror (o : ShiftOperand)
  -- 43_compare.md
  /-- compare A (R171) -/
  | cmp (o : Operand)
  /-- compare X (R172) -/
  | cpx (o : Operand)
  /-- compare Y (R173) -/
  | cpy (o : Operand)
  -- 44_load_store_transfer.md
  /-- load A (R180) -/
  | lda (o : Operand)
  /-- load X (R181) -/
  | ldx (o : Operand)
  /-- load Y (R182) -/
  | ldy (o : Operand)
  /-- store A (R183) -/
  | sta (m : MemMode)
  /-- store X (R184) -/
  | stx (m : MemMode)
  /-- store Y (R185) -/
  | sty (m : MemMode)
  /-- transfer A to X (R186) -/
  | tax
  /-- transfer A to Y (R187) -/
  | tay
  /-- transfer X to A (R188) -/
  | txa
  /-- transfer Y to A (R189) -/
  | tya
  /-- transfer SP to X (R190) -/
  | tsx
  /-- transfer X to SP (R191) -/
  | txs
  -- 45_stack_subroutine_interrupt.md
  /-- push A (R205) -/
  | pha
  /-- push the status byte (R206) -/
  | php
  /-- pull A (R207) -/
  | pla
  /-- pull the status byte (R208) -/
  | plp
  /-- jump to subroutine (R209) -/
  | jsr (target : Word)
  /-- return from subroutine (R210) -/
  | rts
  /-- software interrupt (R211) -/
  | brk
  /-- return from interrupt (R212) -/
  | rti
  -- 46_branch.md
  /-- branch if carry clear (R221) -/
  | bcc (off : Byte)
  /-- branch if carry set (R222) -/
  | bcs (off : Byte)
  /-- branch if zero set (R223) -/
  | beq (off : Byte)
  /-- branch if zero clear (R224) -/
  | bne (off : Byte)
  /-- branch if negative set (R225) -/
  | bmi (off : Byte)
  /-- branch if negative clear (R226) -/
  | bpl (off : Byte)
  /-- branch if overflow clear (R227) -/
  | bvc (off : Byte)
  /-- branch if overflow set (R228) -/
  | bvs (off : Byte)
  -- 47_jump.md
  /-- JMP absolute (R235) -/
  | jmpAbs (target : Word)
  /-- JMP indirect (R236) -/
  | jmpInd (pointer : Word)
  -- 48_flag_nop.md
  /-- clear carry (R240) -/
  | clc
  /-- clear decimal (R241) -/
  | cld
  /-- clear interrupt-disable (R242) -/
  | cli
  /-- clear overflow (R243) -/
  | clv
  /-- set carry (R244) -/
  | sec
  /-- set decimal (R245) -/
  | sed
  /-- set interrupt-disable (R246) -/
  | sei
  /-- no operation (R247) -/
  | nop
  /-- one of the 105 unmapped opcode bytes, a one-byte no-op (R248) -/
  | unmapped (op : Byte)
  deriving DecidableEq, Repr

end Sys2Proof
end

