-- ==== Sys2Proof/Machine/Operands.lean ====
section
/-! DEFINITION. The addressing-mode resolvers of spec/40_dispatch_addressing.md section 2: how many operand bytes each
consumes, its effective address, and its value. A resolver reads registers and memory and changes nothing but PC (R104),
whose advance past the operand bytes is `State.advance`. -/

namespace Sys2Proof.Machine

/-- The operand bytes a memory mode consumes (R106 to R113). -/
def memSize : MemMode → Nat
  | .zp _ | .zpx _ | .zpy _ | .indx _ | .indy _ => 1
  | .abs _ | .absx _ | .absy _ => 2

/-- The operand bytes of a value operand: an immediate is one byte (R105). -/
def operandSize : Operand → Nat
  | .imm _ => 1
  | .mem m => memSize m

/-- The operand bytes of a shift operand: the accumulator has none (R116). -/
def shiftSize : ShiftOperand → Nat
  | .acc => 0
  | .mem m => memSize m

/-- `EA(mode)` (R106 to R113). The index is added to a zero-page operand modulo 256, to an absolute address or a pointer
modulo 65,536. A pointer at 0x00FF takes its high byte from 0x0100: UNVERIFIED (the spec's decision D10;
notes/assumptions/7.md). -/
def State.effAddr (s : State) : MemMode → Word
  | .zp nn => zext16 nn
  | .zpx nn => zext16 (nn + s.x)
  | .zpy nn => zext16 (nn + s.y)
  | .abs w => w
  | .absx w => w + zext16 s.x
  | .absy w => w + zext16 s.y
  | .indx nn => s.readWord (zext16 (nn + s.x))
  | .indy nn => s.readWord (zext16 nn) + zext16 s.y

/-- `Operand(mode)` (R118): the immediate byte, or the byte at the effective address. -/
def State.operand (s : State) : Operand → Byte
  | .imm nn => nn
  | .mem m => s.readByte (s.effAddr m)

/-- The target of a relative branch, from a state whose PC is past the operand: `(PC + sext_16(off)) mod 65536` (R114). -/
def State.branchTarget (s : State) (off : Byte) : Word := s.pc + sext16 off

end Sys2Proof.Machine
end

