-- ==== Sys2Proof/Machine/Arithmetic.lean ====
section
/-! DEFINITION. spec/41_arithmetic.md: ADC, SBC, INC, DEC, INX, INY, DEX, DEY. Every meaning of the machine begins, as the
rules' pseudocode does, after the opcode fetch, and moves PC past the instruction's bytes first (R100, R103, R121). -/

namespace Sys2Proof.Machine

/-- `(r, c, v) <- ADD8(A, m, C); A <- r; C <- c; V <- v; SetNZ(r)` (R131, R132). D plays no part (R139). -/
def State.addToA (s : State) (m : Byte) : State :=
  let r := add8 s.a m s.c
  (((s.setA r.1).setC r.2.1).setV r.2.2).setNZ r.1

/-- `MemWrite(ea, 1, r); SetNZ(r)`, the end of a read-modify-write (R119, R133, R134). -/
def State.writeBack (s : State) (ea : Word) (r : Byte) : State := (s.writeByte ea r).setNZ r

/-- ADC (R131) -/
def execAdc (o : Operand) (s : State) : Result :=
  let s := s.advance (1 + operandSize o)
  .next (s.addToA (s.operand o))

/-- SBC: an add of the inverted operand (R132) -/
def execSbc (o : Operand) (s : State) : Result :=
  let s := s.advance (1 + operandSize o)
  .next (s.addToA (~~~ s.operand o))

/-- INC (R133) -/
def execInc (m : MemMode) (s : State) : Result :=
  let s := s.advance (1 + memSize m)
  let ea := s.effAddr m
  .next (s.writeBack ea (s.readByte ea + 1))

/-- DEC (R134) -/
def execDec (m : MemMode) (s : State) : Result :=
  let s := s.advance (1 + memSize m)
  let ea := s.effAddr m
  .next (s.writeBack ea (s.readByte ea - 1))

/-- INX (R135) -/
def execInx (s : State) : Result :=
  let s := s.advance 1
  .next ((s.setX (s.x + 1)).setNZ (s.x + 1))

/-- INY (R136) -/
def execIny (s : State) : Result :=
  let s := s.advance 1
  .next ((s.setY (s.y + 1)).setNZ (s.y + 1))

/-- DEX (R137) -/
def execDex (s : State) : Result :=
  let s := s.advance 1
  .next ((s.setX (s.x - 1)).setNZ (s.x - 1))

/-- DEY (R138) -/
def execDey (s : State) : Result :=
  let s := s.advance 1
  .next ((s.setY (s.y - 1)).setNZ (s.y - 1))

end Sys2Proof.Machine
end

