-- ==== Sys2Proof/Machine/Bitwise.lean ====
section
/-! DEFINITION. spec/42_bitwise_shift.md: AND, ORA, EOR, BIT, ASL, LSR, ROL, ROR. -/

namespace Sys2Proof.Machine

/-- `A <- v; SetNZ(A)` -/
def State.loadA (s : State) (v : Byte) : State := (s.setA v).setNZ v

/-- AND (R150) -/
def execAnd (o : Operand) (s : State) : Result :=
  let s := s.advance (1 + operandSize o)
  .next (s.loadA (s.a &&& s.operand o))

/-- ORA (R151) -/
def execOra (o : Operand) (s : State) : Result :=
  let s := s.advance (1 + operandSize o)
  .next (s.loadA (s.a ||| s.operand o))

/-- EOR (R152) -/
def execEor (o : Operand) (s : State) : Result :=
  let s := s.advance (1 + operandSize o)
  .next (s.loadA (s.a ^^^ s.operand o))

/-- BIT: Z from `A & m`, N and V from bits 7 and 6 of the memory byte (R153) -/
def execBit (m : MemMode) (s : State) : Result :=
  let s := s.advance (1 + memSize m)
  let v := s.readByte (s.effAddr m)
  .next (((s.setZ ((s.a &&& v) == 0)).setN (v.getLsbD 7)).setV (v.getLsbD 6))

/-- The common shape of a shift or rotate (R154): `(r, c) <- f(m, C)`, the result to A or back to the same address, then
`C <- c; SetNZ(r)`. The old C is read before the new one is written. -/
def State.shift (s : State) (o : ShiftOperand) (f : Byte → Bool → Byte × Bool) : State :=
  match o with
  | .acc =>
    let r := f s.a s.c
    ((s.setA r.1).setC r.2).setNZ r.1
  | .mem m =>
    let ea := s.effAddr m
    let r := f (s.readByte ea) s.c
    ((s.writeByte ea r.1).setC r.2).setNZ r.1

/-- `f(m, cin) = ((m << 1) mod 256, m[7])` (R155) -/
def aslByte (m : Byte) (_ : Bool) : Byte × Bool := (m <<< 1, m.getLsbD 7)

/-- `f(m, cin) = (m >> 1, m[0])` (R156) -/
def lsrByte (m : Byte) (_ : Bool) : Byte × Bool := (m >>> 1, m.getLsbD 0)

/-- `f(m, cin) = (((m << 1) | cin) mod 256, m[7])` (R157) -/
def rolByte (m : Byte) (cin : Bool) : Byte × Bool :=
  ((m <<< 1) ||| (BitVec.ofBool cin).setWidth 8, m.getLsbD 7)

/-- `f(m, cin) = ((m >> 1) | (cin << 7), m[0])` (R158) -/
def rorByte (m : Byte) (cin : Bool) : Byte × Bool :=
  ((m >>> 1) ||| ((BitVec.ofBool cin).setWidth 8 <<< 7), m.getLsbD 0)

/-- ASL (R155) -/
def execAsl (o : ShiftOperand) (s : State) : Result :=
  .next ((s.advance (1 + shiftSize o)).shift o aslByte)

/-- LSR (R156) -/
def execLsr (o : ShiftOperand) (s : State) : Result :=
  .next ((s.advance (1 + shiftSize o)).shift o lsrByte)

/-- ROL (R157) -/
def execRol (o : ShiftOperand) (s : State) : Result :=
  .next ((s.advance (1 + shiftSize o)).shift o rolByte)

/-- ROR (R158) -/
def execRor (o : ShiftOperand) (s : State) : Result :=
  .next ((s.advance (1 + shiftSize o)).shift o rorByte)

end Sys2Proof.Machine
end

