-- ==== Sys2Proof/Machine/Branch.lean ====
section
/-! DEFINITION. spec/46_branch.md: BCC, BCS, BEQ, BNE, BMI, BPL, BVC, BVS. -/

namespace Sys2Proof.Machine

/-- The common branch (R220): the operand byte is always consumed, and PC takes the target only when the condition holds. -/
def State.branch (s : State) (cond : Bool) (off : Byte) : State :=
  let s := s.advance 2
  if cond then s.setPc (s.branchTarget off) else s

/-- BCC (R221) -/
def execBcc (off : Byte) (s : State) : Result := .next (s.branch (!s.c) off)

/-- BCS (R222) -/
def execBcs (off : Byte) (s : State) : Result := .next (s.branch s.c off)

/-- BEQ (R223) -/
def execBeq (off : Byte) (s : State) : Result := .next (s.branch s.z off)

/-- BNE (R224) -/
def execBne (off : Byte) (s : State) : Result := .next (s.branch (!s.z) off)

/-- BMI (R225) -/
def execBmi (off : Byte) (s : State) : Result := .next (s.branch s.n off)

/-- BPL (R226) -/
def execBpl (off : Byte) (s : State) : Result := .next (s.branch (!s.n) off)

/-- BVC (R227) -/
def execBvc (off : Byte) (s : State) : Result := .next (s.branch (!s.v) off)

/-- BVS (R228) -/
def execBvs (off : Byte) (s : State) : Result := .next (s.branch s.v off)

end Sys2Proof.Machine
end

