-- ==== Sys2Proof/Machine/Compare.lean ====
section
/-! DEFINITION. spec/43_compare.md: CMP, CPX, CPY. -/

namespace Sys2Proof.Machine

/-- CMP (R171) -/
def execCmp (o : Operand) (s : State) : Result :=
  let s := s.advance (1 + operandSize o)
  .next (s.compare s.a (s.operand o))

/-- CPX (R172) -/
def execCpx (o : Operand) (s : State) : Result :=
  let s := s.advance (1 + operandSize o)
  .next (s.compare s.x (s.operand o))

/-- CPY (R173) -/
def execCpy (o : Operand) (s : State) : Result :=
  let s := s.advance (1 + operandSize o)
  .next (s.compare s.y (s.operand o))

end Sys2Proof.Machine
end

