-- ==== Sys2Proof/Machine/FlagOps.lean ====
section
/-! DEFINITION. spec/48_flag_nop.md: CLC, CLD, CLI, CLV, SEC, SED, SEI, NOP and the unmapped opcodes. -/

namespace Sys2Proof.Machine

/-- CLC (R240) -/
def execClc (s : State) : Result := .next ((s.advance 1).setC false)

/-- CLD (R241) -/
def execCld (s : State) : Result := .next ((s.advance 1).setD false)

/-- CLI (R242) -/
def execCli (s : State) : Result := .next ((s.advance 1).setI false)

/-- CLV (R243) -/
def execClv (s : State) : Result := .next ((s.advance 1).setV false)

/-- SEC (R244) -/
def execSec (s : State) : Result := .next ((s.advance 1).setC true)

/-- SED (R245) -/
def execSed (s : State) : Result := .next ((s.advance 1).setD true)

/-- SEI (R246) -/
def execSei (s : State) : Result := .next ((s.advance 1).setI true)

/-- NOP (R247) -/
def execNop (s : State) : Result := .next (s.advance 1)

/-- An unmapped opcode: a one-byte no-op whatever the byte (R248); the length is UNVERIFIED, the spec's decision D8
(notes/assumptions/5.md) -/
def execUnmapped (_ : Byte) (s : State) : Result := .next (s.advance 1)

end Sys2Proof.Machine
end

