-- ==== Sys2Proof/Machine/Jump.lean ====
section
/-! DEFINITION. spec/47_jump.md: JMP absolute and JMP indirect. -/

namespace Sys2Proof.Machine

/-- JMP absolute (R235) -/
def execJmpAbs (target : Word) (s : State) : Result := .next (s.setPc target)

/-- JMP indirect (R115, R236): the pointer's high byte is at `a + 1`, with no page wrap: UNVERIFIED, the spec's decision
D11 (notes/assumptions/7.md) -/
def execJmpInd (pointer : Word) (s : State) : Result := .next (s.setPc (s.readWord pointer))

end Sys2Proof.Machine
end

