-- ==== Sys2Proof/Machine/Stack.lean ====
section
/-! DEFINITION. spec/45_stack_subroutine_interrupt.md: PHA, PHP, PLA, PLP, JSR, RTS, BRK, RTI. -/

namespace Sys2Proof.Machine

/-- PHA (R205) -/
def execPha (s : State) : Result :=
  let s := s.advance 1
  .next (s.push s.a)

/-- PHP: the flag byte verbatim, bit 5 as 0 (R206) -/
def execPhp (s : State) : Result :=
  let s := s.advance 1
  .next (s.push s.p)

/-- PLA (R207) -/
def execPla (s : State) : Result :=
  let r := (s.advance 1).pop
  .next ((r.2.setA r.1).setNZ r.1)

/-- PLP (R208) -/
def execPlp (s : State) : Result :=
  let r := (s.advance 1).pop
  .next (r.2.setP r.1)

/-- JSR: the address after the instruction is pushed (R209): UNVERIFIED, the spec's decision D5
(notes/assumptions/3.md) -/
def execJsr (target : Word) (s : State) : Result :=
  let s := s.advance 3
  .next ((s.pushWord s.pc).setPc target)

/-- RTS: no correction of the pulled address (R210) -/
def execRts (s : State) : Result :=
  let r := s.popWord
  .next (r.2.setPc r.1)

/-- BRK: one byte, so the return address is BRK's address + 1 (R211): UNVERIFIED, the spec's decision D6
(notes/assumptions/4.md) -/
def execBrk (s : State) : Result := .next (s.advance 1).enterTrap

/-- RTI (R212) -/
def execRti (s : State) : Result := .next s.returnFromTrap

end Sys2Proof.Machine
end

