-- ==== Sys2Proof/Machine/Transfer.lean ====
section
/-! DEFINITION. spec/44_load_store_transfer.md: LDA, LDX, LDY, STA, STX, STY, TAX, TAY, TXA, TYA, TSX, TXS. -/

namespace Sys2Proof.Machine

/-- LDA (R180) -/
def execLda (o : Operand) (s : State) : Result :=
  let s := s.advance (1 + operandSize o)
  .next ((s.setA (s.operand o)).setNZ (s.operand o))

/-- LDX (R181) -/
def execLdx (o : Operand) (s : State) : Result :=
  let s := s.advance (1 + operandSize o)
  .next ((s.setX (s.operand o)).setNZ (s.operand o))

/-- LDY (R182) -/
def execLdy (o : Operand) (s : State) : Result :=
  let s := s.advance (1 + operandSize o)
  .next ((s.setY (s.operand o)).setNZ (s.operand o))

/-- STA (R183) -/
def execSta (m : MemMode) (s : State) : Result :=
  let s := s.advance (1 + memSize m)
  .next (s.writeByte (s.effAddr m) s.a)

/-- STX (R184) -/
def execStx (m : MemMode) (s : State) : Result :=
  let s := s.advance (1 + memSize m)
  .next (s.writeByte (s.effAddr m) s.x)

/-- STY (R185) -/
def execSty (m : MemMode) (s : State) : Result :=
  let s := s.advance (1 + memSize m)
  .next (s.writeByte (s.effAddr m) s.y)

/-- TAX (R186) -/
def execTax (s : State) : Result :=
  let s := s.advance 1
  .next ((s.setX s.a).setNZ s.a)

/-- TAY (R187) -/
def execTay (s : State) : Result :=
  let s := s.advance 1
  .next ((s.setY s.a).setNZ s.a)

/-- TXA (R188) -/
def execTxa (s : State) : Result :=
  let s := s.advance 1
  .next ((s.setA s.x).setNZ s.x)

/-- TYA (R189) -/
def execTya (s : State) : Result :=
  let s := s.advance 1
  .next ((s.setA s.y).setNZ s.y)

/-- TSX (R190) -/
def execTsx (s : State) : Result :=
  let s := s.advance 1
  .next ((s.setX s.sp).setNZ s.sp)

/-- TXS: no flag (R191) -/
def execTxs (s : State) : Result :=
  let s := s.advance 1
  .next (s.setSp s.x)

end Sys2Proof.Machine
end

