-- ==== Sys2Proof/WellFormed.lean ====
section
/-! DEFINITION. Which instructions have an encoding: the modes each mnemonic takes (spec/40_dispatch_addressing.md R122,
by the operand lines of files 41 to 44) and the unmapped bytes (spec/30_encoding.md R89). Written from those lists, apart
from the opcode map of Decode.lean, so that the two can be checked against each other. -/

namespace Sys2Proof

/-- zp, zp,X, abs, abs,X, abs,Y, (zp,X), (zp),Y: every mode but zero-page,Y, which only LDX and STX have (R108). -/
def MemMode.isGeneral : MemMode → Bool
  | .zpy _ => false
  | .zp _ | .zpx _ | .abs _ | .absx _ | .absy _ | .indx _ | .indy _ => true

/-- zp, zp,X, abs, abs,X: the modes of INC, DEC, the memory shifts (R133, R134, R155 to R158) and LDY (R182). -/
def MemMode.isPlainOrX : MemMode → Bool
  | .zp _ | .zpx _ | .abs _ | .absx _ => true
  | .zpy _ | .absy _ | .indx _ | .indy _ => false

/-- zp, zp,Y, abs, abs,Y: the modes of LDX (R181). -/
def MemMode.isPlainOrY : MemMode → Bool
  | .zp _ | .zpy _ | .abs _ | .absy _ => true
  | .zpx _ | .absx _ | .indx _ | .indy _ => false

/-- zp, abs: the modes of BIT, CPX and CPY (R153, R172, R173). -/
def MemMode.isPlain : MemMode → Bool
  | .zp _ | .abs _ => true
  | .zpx _ | .zpy _ | .absx _ | .absy _ | .indx _ | .indy _ => false

/-- zp, zp,Y, abs: the modes of STX (R184). -/
def MemMode.isStx : MemMode → Bool
  | .zp _ | .zpy _ | .abs _ => true
  | .zpx _ | .absx _ | .absy _ | .indx _ | .indy _ => false

/-- zp, zp,X, abs: the modes of STY (R185). -/
def MemMode.isSty : MemMode → Bool
  | .zp _ | .zpx _ | .abs _ => true
  | .zpy _ | .absx _ | .absy _ | .indx _ | .indy _ => false

/-- An operand that is immediate or whose memory mode satisfies `ok`. -/
def Operand.allows (ok : MemMode → Bool) : Operand → Bool
  | .imm _ => true
  | .mem m => ok m

/-- An operand that is the accumulator or whose memory mode satisfies `ok`. -/
def ShiftOperand.allows (ok : MemMode → Bool) : ShiftOperand → Bool
  | .acc => true
  | .mem m => ok m

/-- The 105 unmapped bytes, copied in order from the list of R89. -/
def unmappedOpcodes : List Byte :=
  [0x02, 0x03, 0x04, 0x07, 0x0B, 0x0C, 0x0F, 0x12, 0x13, 0x14, 0x17, 0x1A, 0x1B, 0x1C, 0x1F,
   0x22, 0x23, 0x27, 0x2B, 0x2F, 0x32, 0x33, 0x34, 0x37, 0x3A, 0x3B, 0x3C, 0x3F, 0x42, 0x43] ++
  [0x44, 0x47, 0x4B, 0x4F, 0x52, 0x53, 0x54, 0x57, 0x5A, 0x5B, 0x5C, 0x5F, 0x62, 0x63, 0x64,
   0x67, 0x6B, 0x6F, 0x72, 0x73, 0x74, 0x77, 0x7A, 0x7B, 0x7C, 0x7F, 0x80, 0x82, 0x83, 0x87] ++
  [0x89, 0x8B, 0x8F, 0x92, 0x93, 0x97, 0x9B, 0x9C, 0x9E, 0x9F, 0xA3, 0xA7, 0xAB, 0xAF, 0xB2,
   0xB3, 0xB7, 0xBB, 0xBF, 0xC2, 0xC3, 0xC7, 0xCB, 0xCF, 0xD2, 0xD3, 0xD4, 0xD7, 0xDA, 0xDB] ++
  [0xDC, 0xDF, 0xE2, 0xE3, 0xE7, 0xEB, 0xEF, 0xF2, 0xF3, 0xF4, 0xF7, 0xFA, 0xFB, 0xFC, 0xFF]

/-- The instruction has an encoding: its mode is one the mnemonic takes (R122), its unmapped byte is one of R89's. -/
def Instr.wf : Instr → Bool
  | .adc o | .sbc o | .and o | .ora o | .eor o | .cmp o | .lda o => o.allows MemMode.isGeneral
  | .inc m | .dec m => m.isPlainOrX
  | .asl o | .lsr o | .rol o | .ror o => o.allows MemMode.isPlainOrX
  | .bit m => m.isPlain
  | .cpx o | .cpy o => o.allows MemMode.isPlain
  | .ldx o => o.allows MemMode.isPlainOrY
  | .ldy o => o.allows MemMode.isPlainOrX
  | .sta m => m.isGeneral
  | .stx m => m.isStx
  | .sty m => m.isSty
  | .inx | .iny | .dex | .dey | .tax | .tay | .txa | .tya | .tsx | .txs => true
  | .pha | .php | .pla | .plp | .jsr _ | .rts | .brk | .rti => true
  | .bcc _ | .bcs _ | .beq _ | .bne _ | .bmi _ | .bpl _ | .bvc _ | .bvs _ => true
  | .jmpAbs _ | .jmpInd _ => true
  | .clc | .cld | .cli | .clv | .sec | .sed | .sei | .nop => true
  | .unmapped op => unmappedOpcodes.contains op

end Sys2Proof
end

