-- ==== Sys2Proof/Decode.lean ====
section
/-! DEFINITION. The decoder, from the opcode map of spec/30_encoding.md R87 (rows by high digit, columns by low digit),
and after it the encoder, from the list by mnemonic of R88. The two tables are the spec's two; the byte values are
UNVERIFIED (notes/assumptions/1.md: the spec's own decision D17, from general knowledge). -/

namespace Sys2Proof

open Machine

/-- What a byte string can lack for decoding; a byte is never undecodable (R90, R101). Raised only by `decode` on a list
that ends too early, never by a step, whose fetch reads memory that has no end (R51). Safe (notes/assumptions/12.md). -/
inductive DecodeError where
  /-- there is no opcode byte -/
  | noOpcode
  /-- the list ends before the operand bytes that the opcode calls for -/
  | operandMissing (op : Byte)
  deriving DecidableEq, Repr

/-- One entry of the dispatch table: the instruction as a function of its 0, 1 or 2 operand bytes (R80, R82); the two
operand bytes of a 3-byte instruction come assembled, low byte first (R85). -/
inductive Template where
  | bytes1 (i : Instr)
  | bytes2 (f : Byte → Instr)
  | bytes3 (f : Word → Instr)

/-- The length in bytes of an instruction of this entry, opcode included (R80). -/
def Template.length : Template → Nat
  | .bytes1 _ => 1
  | .bytes2 _ => 2
  | .bytes3 _ => 3

namespace OpcodeMap

/-! The cells of R87's table: `none` is its `·`. -/

/-- no operand byte: implied (R117) -/
def im (i : Instr) : Option Template := some (.bytes1 i)
/-- immediate -/
def rdI (f : Operand → Instr) : Option Template := some (.bytes2 fun nn => f (.imm nn))
/-- a value read through a 1-byte mode -/
def rd (f : Operand → Instr) (m : Byte → MemMode) : Option Template := some (.bytes2 fun nn => f (.mem (m nn)))
/-- a value read through a 2-byte mode -/
def rdW (f : Operand → Instr) (m : Word → MemMode) : Option Template := some (.bytes3 fun w => f (.mem (m w)))
/-- a memory mode of 1 byte (stores, INC, DEC, BIT) -/
def at1 (f : MemMode → Instr) (m : Byte → MemMode) : Option Template := some (.bytes2 fun nn => f (m nn))
/-- a memory mode of 2 bytes (stores, INC, DEC, BIT) -/
def at2 (f : MemMode → Instr) (m : Word → MemMode) : Option Template := some (.bytes3 fun w => f (m w))
/-- accumulator (R116) -/
def shA (f : ShiftOperand → Instr) : Option Template := some (.bytes1 (f .acc))
/-- a shift through a 1-byte mode -/
def sh (f : ShiftOperand → Instr) (m : Byte → MemMode) : Option Template := some (.bytes2 fun nn => f (.mem (m nn)))
/-- a shift through a 2-byte mode -/
def shW (f : ShiftOperand → Instr) (m : Word → MemMode) : Option Template := some (.bytes3 fun w => f (.mem (m w)))
/-- relative (R114) -/
def rel (f : Byte → Instr) : Option Template := some (.bytes2 f)
/-- JMP absolute, JMP indirect, JSR -/
def jp (f : Word → Instr) : Option Template := some (.bytes3 f)
/-- an unmapped byte (R89) -/
def un : Option Template := none

/-! R87, one definition per row; sixteen columns 0 to F, four to a line. -/

def row0 : List (Option Template) :=
  [im .brk, rd .ora .indx, un, un,
   un, rd .ora .zp, sh .asl .zp, un,
   im .php, rdI .ora, shA .asl, un,
   un, rdW .ora .abs, shW .asl .abs, un]

def row1 : List (Option Template) :=
  [rel .bpl, rd .ora .indy, un, un,
   un, rd .ora .zpx, sh .asl .zpx, un,
   im .clc, rdW .ora .absy, un, un,
   un, rdW .ora .absx, shW .asl .absx, un]

def row2 : List (Option Template) :=
  [jp .jsr, rd .and .indx, un, un,
   at1 .bit .zp, rd .and .zp, sh .rol .zp, un,
   im .plp, rdI .and, shA .rol, un,
   at2 .bit .abs, rdW .and .abs, shW .rol .abs, un]

def row3 : List (Option Template) :=
  [rel .bmi, rd .and .indy, un, un,
   un, rd .and .zpx, sh .rol .zpx, un,
   im .sec, rdW .and .absy, un, un,
   un, rdW .and .absx, shW .rol .absx, un]

def row4 : List (Option Template) :=
  [im .rti, rd .eor .indx, un, un,
   un, rd .eor .zp, sh .lsr .zp, un,
   im .pha, rdI .eor, shA .lsr, un,
   jp .jmpAbs, rdW .eor .abs, shW .lsr .abs, un]

def row5 : List (Option Template) :=
  [rel .bvc, rd .eor .indy, un, un,
   un, rd .eor .zpx, sh .lsr .zpx, un,
   im .cli, rdW .eor .absy, un, un,
   un, rdW .eor .absx, shW .lsr .absx, un]

def row6 : List (Option Template) :=
  [im .rts, rd .adc .indx, un, un,
   un, rd .adc .zp, sh .ror .zp, un,
   im .pla, rdI .adc, shA .ror, un,
   jp .jmpInd, rdW .adc .abs, shW .ror .abs, un]

def row7 : List (Option Template) :=
  [rel .bvs, rd .adc .indy, un, un,
   un, rd .adc .zpx, sh .ror .zpx, un,
   im .sei, rdW .adc .absy, un, un,
   un, rdW .adc .absx, shW .ror .absx, un]

def row8 : List (Option Template) :=
  [un, at1 .sta .indx, un, un,
   at1 .sty .zp, at1 .sta .zp, at1 .stx .zp, un,
   im .dey, un, im .txa, un,
   at2 .sty .abs, at2 .sta .abs, at2 .stx .abs, un]

def row9 : List (Option Template) :=
  [rel .bcc, at1 .sta .indy, un, un,
   at1 .sty .zpx, at1 .sta .zpx, at1 .stx .zpy, un,
   im .tya, at2 .sta .absy, im .txs, un,
   un, at2 .sta .absx, un, un]

def rowA : List (Option Template) :=
  [rdI .ldy, rd .lda .indx, rdI .ldx, un,
   rd .ldy .zp, rd .lda .zp, rd .ldx .zp, un,
   im .tay, rdI .lda, im .tax, un,
   rdW .ldy .abs, rdW .lda .abs, rdW .ldx .abs, un]

def rowB : List (Option Template) :=
  [rel .bcs, rd .lda .indy, un, un,
   rd .ldy .zpx, rd .lda .zpx, rd .ldx .zpy, un,
   im .clv, rdW .lda .absy, im .tsx, un,
   rdW .ldy .absx, rdW .lda .absx, rdW .ldx .absy, un]

def rowC : List (Option Template) :=
  [rdI .cpy, rd .cmp .indx, un, un,
   rd .cpy .zp, rd .cmp .zp, at1 .dec .zp, un,
   im .iny, rdI .cmp, im .dex, un,
   rdW .cpy .abs, rdW .cmp .abs, at2 .dec .abs, un]

def rowD : List (Option Template) :=
  [rel .bne, rd .cmp .indy, un, un,
   un, rd .cmp .zpx, at1 .dec .zpx, un,
   im .cld, rdW .cmp .absy, un, un,
   un, rdW .cmp .absx, at2 .dec .absx, un]

def rowE : List (Option Template) :=
  [rdI .cpx, rd .sbc .indx, un, un,
   rd .cpx .zp, rd .sbc .zp, at1 .inc .zp, un,
   im .inx, rdI .sbc, im .nop, un,
   rdW .cpx .abs, rdW .sbc .abs, at2 .inc .abs, un]

def rowF : List (Option Template) :=
  [rel .beq, rd .sbc .indy, un, un,
   un, rd .sbc .zpx, at1 .inc .zpx, un,
   im .sed, rdW .sbc .absy, un, un,
   un, rdW .sbc .absx, at2 .inc .absx, un]

/-- The dispatch table: 256 entries, indexed by the opcode byte (R87). -/
def table : List (Option Template) :=
  row0 ++ row1 ++ row2 ++ row3 ++ row4 ++ row5 ++ row6 ++ row7 ++
  row8 ++ row9 ++ rowA ++ rowB ++ rowC ++ rowD ++ rowE ++ rowF

end OpcodeMap

/-- `Table[op]` (R100), total (R101): the entry of R87, or the one-byte no-op of an unmapped byte (R89). -/
def templateOf (op : Byte) : Template :=
  ((OpcodeMap.table.getD op.toNat none).getD (.bytes1 (.unmapped op)))

/-- Complete an entry with the operand bytes at the front of `rest`, and give the bytes after them (R80, R85). -/
def readOperands (op : Byte) (rest : List Byte) : Template → Except DecodeError (Instr × List Byte)
  | .bytes1 i => .ok (i, rest)
  | .bytes2 f =>
    match rest with
    | nn :: tail => .ok (f nn, tail)
    | [] => .error (.operandMissing op)
  | .bytes3 f =>
    match rest with
    | ll :: hh :: tail => .ok (f (hiLo hh ll), tail)
    | [_] | [] => .error (.operandMissing op)

/-- Read one instruction from the front of a byte string and give the bytes after it (R82). -/
def decode : List Byte → Except DecodeError (Instr × List Byte)
  | [] => .error .noOpcode
  | op :: rest => readOperands op rest (templateOf op)

/-- The bytes of a table word, at least the three of the longest instruction: byte k is bits 8k+7 to 8k of `w`, and every
bit from `nbits` up is 0. The first byte stands at the lowest address (R80). -/
def tableBytes (nbits w : Nat) : List Byte :=
  let v := w % 2 ^ nbits
  [BitVec.ofNat 8 v, BitVec.ofNat 8 (v / 256), BitVec.ofNat 8 (v / 65536)]

/-- The instruction the decoder reads from an instruction whose bits are `w`, numbered as spec/opcode_table.json does. -/
def decodeTableWord (nbits w : Nat) : Option Instr :=
  match decode (tableBytes nbits w) with
  | .ok (i, _) => some i
  | .error _ => none

/-! ### The encoder, from the list by mnemonic of R88 -/

/-- One line of R88: the opcode byte of each mode the mnemonic has. -/
structure ModeOpcodes where
  imm : Option Byte := none
  acc : Option Byte := none
  zp : Option Byte := none
  zpx : Option Byte := none
  zpy : Option Byte := none
  abs : Option Byte := none
  absx : Option Byte := none
  absy : Option Byte := none
  indx : Option Byte := none
  indy : Option Byte := none

namespace Opcodes

def adc : ModeOpcodes := { imm := some 0x69, zp := some 0x65, zpx := some 0x75, abs := some 0x6D, absx := some 0x7D, absy := some 0x79, indx := some 0x61, indy := some 0x71 }
def sbc : ModeOpcodes := { imm := some 0xE9, zp := some 0xE5, zpx := some 0xF5, abs := some 0xED, absx := some 0xFD, absy := some 0xF9, indx := some 0xE1, indy := some 0xF1 }
def inc : ModeOpcodes := { zp := some 0xE6, zpx := some 0xF6, abs := some 0xEE, absx := some 0xFE }
def dec : ModeOpcodes := { zp := some 0xC6, zpx := some 0xD6, abs := some 0xCE, absx := some 0xDE }
def and : ModeOpcodes := { imm := some 0x29, zp := some 0x25, zpx := some 0x35, abs := some 0x2D, absx := some 0x3D, absy := some 0x39, indx := some 0x21, indy := some 0x31 }
def ora : ModeOpcodes := { imm := some 0x09, zp := some 0x05, zpx := some 0x15, abs := some 0x0D, absx := some 0x1D, absy := some 0x19, indx := some 0x01, indy := some 0x11 }
def eor : ModeOpcodes := { imm := some 0x49, zp := some 0x45, zpx := some 0x55, abs := some 0x4D, absx := some 0x5D, absy := some 0x59, indx := some 0x41, indy := some 0x51 }
def bit : ModeOpcodes := { zp := some 0x24, abs := some 0x2C }
def asl : ModeOpcodes := { acc := some 0x0A, zp := some 0x06, zpx := some 0x16, abs := some 0x0E, absx := some 0x1E }
def lsr : ModeOpcodes := { acc := some 0x4A, zp := some 0x46, zpx := some 0x56, abs := some 0x4E, absx := some 0x5E }
def rol : ModeOpcodes := { acc := some 0x2A, zp := some 0x26, zpx := some 0x36, abs := some 0x2E, absx := some 0x3E }
def ror : ModeOpcodes := { acc := some 0x6A, zp := some 0x66, zpx := some 0x76, abs := some 0x6E, absx := some 0x7E }
def cmp : ModeOpcodes := { imm := some 0xC9, zp := some 0xC5, zpx := some 0xD5, abs := some 0xCD, absx := some 0xDD, absy := some 0xD9, indx := some 0xC1, indy := some 0xD1 }
def cpx : ModeOpcodes := { imm := some 0xE0, zp := some 0xE4, abs := some 0xEC }
def cpy : ModeOpcodes := { imm := some 0xC0, zp := some 0xC4, abs := some 0xCC }
def lda : ModeOpcodes := { imm := some 0xA9, zp := some 0xA5, zpx := some 0xB5, abs := some 0xAD, absx := some 0xBD, absy := some 0xB9, indx := some 0xA1, indy := some 0xB1 }
def ldx : ModeOpcodes := { imm := some 0xA2, zp := some 0xA6, zpy := some 0xB6, abs := some 0xAE, absy := some 0xBE }
def ldy : ModeOpcodes := { imm := some 0xA0, zp := some 0xA4, zpx := some 0xB4, abs := some 0xAC, absx := some 0xBC }
def sta : ModeOpcodes := { zp := some 0x85, zpx := some 0x95, abs := some 0x8D, absx := some 0x9D, absy := some 0x99, indx := some 0x81, indy := some 0x91 }
def stx : ModeOpcodes := { zp := some 0x86, zpy := some 0x96, abs := some 0x8E }
def sty : ModeOpcodes := { zp := some 0x84, zpx := some 0x94, abs := some 0x8C }

end Opcodes

/-- The two operand bytes of a 16-bit operand, low byte first (R85). -/
def wordBytes (w : Word) : List Byte := [lowByte w, highByte w]

/-- The bytes of a memory mode under one line of R88. -/
def encodeMem (t : ModeOpcodes) : MemMode → Option (List Byte)
  | .zp nn => t.zp.map (· :: [nn])
  | .zpx nn => t.zpx.map (· :: [nn])
  | .zpy nn => t.zpy.map (· :: [nn])
  | .abs w => t.abs.map (· :: wordBytes w)
  | .absx w => t.absx.map (· :: wordBytes w)
  | .absy w => t.absy.map (· :: wordBytes w)
  | .indx nn => t.indx.map (· :: [nn])
  | .indy nn => t.indy.map (· :: [nn])

/-- The bytes of a value operand under one line of R88. -/
def encodeOperand (t : ModeOpcodes) : Operand → Option (List Byte)
  | .imm nn => t.imm.map (· :: [nn])
  | .mem m => encodeMem t m

/-- The bytes of a shift operand under one line of R88. -/
def encodeShift (t : ModeOpcodes) : ShiftOperand → Option (List Byte)
  | .acc => t.acc.map (· :: [])
  | .mem m => encodeMem t m

/-- The bytes of an instruction (R88), none for a mnemonic and mode that have no encoding (R122). -/
def encode : Instr → Option (List Byte)
  | .adc o => encodeOperand Opcodes.adc o
  | .sbc o => encodeOperand Opcodes.sbc o
  | .inc m => encodeMem Opcodes.inc m
  | .dec m => encodeMem Opcodes.dec m
  | .inx => some [0xE8]
  | .iny => some [0xC8]
  | .dex => some [0xCA]
  | .dey => some [0x88]
  | .and o => encodeOperand Opcodes.and o
  | .ora o => encodeOperand Opcodes.ora o
  | .eor o => encodeOperand Opcodes.eor o
  | .bit m => encodeMem Opcodes.bit m
  | .asl o => encodeShift Opcodes.asl o
  | .lsr o => encodeShift Opcodes.lsr o
  | .rol o => encodeShift Opcodes.rol o
  | .ror o => encodeShift Opcodes.ror o
  | .cmp o => encodeOperand Opcodes.cmp o
  | .cpx o => encodeOperand Opcodes.cpx o
  | .cpy o => encodeOperand Opcodes.cpy o
  | .lda o => encodeOperand Opcodes.lda o
  | .ldx o => encodeOperand Opcodes.ldx o
  | .ldy o => encodeOperand Opcodes.ldy o
  | .sta m => encodeMem Opcodes.sta m
  | .stx m => encodeMem Opcodes.stx m
  | .sty m => encodeMem Opcodes.sty m
  | .tax => some [0xAA]
  | .tay => some [0xA8]
  | .txa => some [0x8A]
  | .tya => some [0x98]
  | .tsx => some [0xBA]
  | .txs => some [0x9A]
  | .pha => some [0x48]
  | .php => some [0x08]
  | .pla => some [0x68]
  | .plp => some [0x28]
  | .jsr w => some (0x20 :: wordBytes w)
  | .rts => some [0x60]
  | .brk => some [0x00]
  | .rti => some [0x40]
  | .bcc off => some [0x90, off]
  | .bcs off => some [0xB0, off]
  | .beq off => some [0xF0, off]
  | .bne off => some [0xD0, off]
  | .bmi off => some [0x30, off]
  | .bpl off => some [0x10, off]
  | .bvc off => some [0x50, off]
  | .bvs off => some [0x70, off]
  | .jmpAbs w => some (0x4C :: wordBytes w)
  | .jmpInd w => some (0x6C :: wordBytes w)
  | .clc => some [0x18]
  | .cld => some [0xD8]
  | .cli => some [0x58]
  | .clv => some [0xB8]
  | .sec => some [0x38]
  | .sed => some [0xF8]
  | .sei => some [0x78]
  | .nop => some [0xEA]
  | .unmapped op => if unmappedOpcodes.contains op then some [op] else none

end Sys2Proof
end

