-- ==== Sys2Proof/Machine/Fetch.lean ====
section
/-! DEFINITION. The fetch of one instruction (spec/40_dispatch_addressing.md R100, R103): the opcode byte at PC, its table
entry, and exactly the operand bytes the entry calls for, at the following addresses modulo 65,536. Memory itself is
read, so a store is seen by the next fetch (spec/20_memory.md R66). -/

namespace Sys2Proof.Machine

/-- The instruction at PC. Total, as R101 says: every byte has an entry. PC is moved by the instruction's meaning, which
reads no byte at PC, so the order of R121 is kept (notes/assumptions/9.md). -/
def State.fetchInstr (s : State) : Instr :=
  match templateOf (s.readByte s.pc) with
  | .bytes1 i => i
  | .bytes2 f => f (s.readByte (s.pc + 1))
  | .bytes3 f => f (hiLo (s.readByte (s.pc + 2)) (s.readByte (s.pc + 1)))

/-- The length in bytes of an instruction, opcode included (R80). -/
def instrLength : Instr → Nat
  | .adc o | .sbc o | .and o | .ora o | .eor o | .cmp o | .cpx o | .cpy o | .lda o | .ldx o | .ldy o =>
    1 + operandSize o
  | .inc m | .dec m | .bit m | .sta m | .stx m | .sty m => 1 + memSize m
  | .asl o | .lsr o | .rol o | .ror o => 1 + shiftSize o
  | .bcc _ | .bcs _ | .beq _ | .bne _ | .bmi _ | .bpl _ | .bvc _ | .bvs _ => 2
  | .jsr _ | .jmpAbs _ | .jmpInd _ => 3
  | .inx | .iny | .dex | .dey | .tax | .tay | .txa | .tya | .tsx | .txs => 1
  | .pha | .php | .pla | .plp | .rts | .brk | .rti => 1
  | .clc | .cld | .cli | .clv | .sec | .sed | .sei | .nop | .unmapped _ => 1

end Sys2Proof.Machine
end

