-- ==== Sys2Proof/Machine/Step.lean ====
section
/-! DEFINITION. `execute_next` (spec/40_dispatch_addressing.md R100), the only transition of the engine, and the host's
placing of one instruction where the next step fetches. -/

namespace Sys2Proof.Machine

/-- One call of `execute_next`: fetch the instruction at PC and run it. -/
def step (s : State) : Host.Outcome State Fault Refusal := exec s.fetchInstr s

/-- The instruction whose bits are `w` (as spec/opcode_table.json numbers them) stored at PC, as `load_program` would at
that address (R294); nothing else changes (notes/assumptions/8.md). -/
def State.withFetchWord (s : State) (nbits w : Nat) : State := s.writeBytes s.pc (tableBytes nbits w)

end Sys2Proof.Machine
end

