-- ==== Sys2Proof/Machine/Assembly.lean ====
section
/-! DEFINITION. The assembly syntax of spec/30_encoding.md R92: an instruction printed as its mnemonic and the operand in
the form of its mode, as characters. The engine sees bytes only; the syntax is UNVERIFIED (the spec's own decision D18;
notes/assumptions/14.md). -/

namespace Sys2Proof.Machine

/-- One hexadecimal digit. -/
def hexDigit (n : Nat) : Char :=
  ['0', '1', '2', '3', '4', '5', '6', '7', '8', '9', 'A', 'B', 'C', 'D', 'E', 'F'].getD n '0'

/-- `$nn` -/
def hexByte (v : Byte) : List Char := ['$', hexDigit (v.toNat / 16), hexDigit (v.toNat % 16)]

/-- `$hhll` -/
def hexWord (w : Word) : List Char := hexByte (highByte w) ++ (hexByte (lowByte w)).tail

/-- A memory mode as R92 writes it. -/
def memSyntax : MemMode → List Char
  | .zp nn => hexByte nn
  | .zpx nn => hexByte nn ++ [',', 'X']
  | .zpy nn => hexByte nn ++ [',', 'Y']
  | .abs w => hexWord w
  | .absx w => hexWord w ++ [',', 'X']
  | .absy w => hexWord w ++ [',', 'Y']
  | .indx nn => '(' :: hexByte nn ++ [',', 'X', ')']
  | .indy nn => '(' :: hexByte nn ++ [')', ',', 'Y']

/-- A value operand: `#` before an immediate. -/
def operandSyntax : Operand → List Char
  | .imm nn => '#' :: hexByte nn
  | .mem m => memSyntax m

/-- A shift operand: `A` for the accumulator. -/
def shiftSyntax : ShiftOperand → List Char
  | .acc => ['A']
  | .mem m => memSyntax m

/-- The three letters of the mnemonic (R88); an unmapped byte is written `.byte`, as spec/opcode_table.json has it. -/
def mnemonic : Instr → List Char
  | .adc _ => ['A', 'D', 'C']
  | .sbc _ => ['S', 'B', 'C']
  | .inc _ => ['I', 'N', 'C']
  | .dec _ => ['D', 'E', 'C']
  | .inx => ['I', 'N', 'X']
  | .iny => ['I', 'N', 'Y']
  | .dex => ['D', 'E', 'X']
  | .dey => ['D', 'E', 'Y']
  | .and _ => ['A', 'N', 'D']
  | .ora _ => ['O', 'R', 'A']
  | .eor _ => ['E', 'O', 'R']
  | .bit _ => ['B', 'I', 'T']
  | .asl _ => ['A', 'S', 'L']
  | .lsr _ => ['L', 'S', 'R']
  | .rol _ => ['R', 'O', 'L']
  | .ror _ => ['R', 'O', 'R']
  | .cmp _ => ['C', 'M', 'P']
  | .cpx _ => ['C', 'P', 'X']
  | .cpy _ => ['C', 'P', 'Y']
  | .lda _ => ['L', 'D', 'A']
  | .ldx _ => ['L', 'D', 'X']
  | .ldy _ => ['L', 'D', 'Y']
  | .sta _ => ['S', 'T', 'A']
  | .stx _ => ['S', 'T', 'X']
  | .sty _ => ['S', 'T', 'Y']
  | .tax => ['T', 'A', 'X']
  | .tay => ['T', 'A', 'Y']
  | .txa => ['T', 'X', 'A']
  | .tya => ['T', 'Y', 'A']
  | .tsx => ['T', 'S', 'X']
  | .txs => ['T', 'X', 'S']
  | .pha => ['P', 'H', 'A']
  | .php => ['P', 'H', 'P']
  | .pla => ['P', 'L', 'A']
  | .plp => ['P', 'L', 'P']
  | .jsr _ => ['J', 'S', 'R']
  | .rts => ['R', 'T', 'S']
  | .brk => ['B', 'R', 'K']
  | .rti => ['R', 'T', 'I']
  | .bcc _ => ['B', 'C', 'C']
  | .bcs _ => ['B', 'C', 'S']
  | .beq _ => ['B', 'E', 'Q']
  | .bne _ => ['B', 'N', 'E']
  | .bmi _ => ['B', 'M', 'I']
  | .bpl _ => ['B', 'P', 'L']
  | .bvc _ => ['B', 'V', 'C']
  | .bvs _ => ['B', 'V', 'S']
  | .jmpAbs _ => ['J', 'M', 'P']
  | .jmpInd _ => ['J', 'M', 'P']
  | .clc => ['C', 'L', 'C']
  | .cld => ['C', 'L', 'D']
  | .cli => ['C', 'L', 'I']
  | .clv => ['C', 'L', 'V']
  | .sec => ['S', 'E', 'C']
  | .sed => ['S', 'E', 'D']
  | .sei => ['S', 'E', 'I']
  | .nop => ['N', 'O', 'P']
  | .unmapped _ => ['.', 'b', 'y', 't', 'e']

/-- The operand field; a branch at address `addr` shows its target, the address of the next instruction plus the offset. -/
def operandField (addr : Word) : Instr → List Char
  | .adc o | .sbc o | .and o | .ora o | .eor o | .cmp o | .cpx o | .cpy o | .lda o | .ldx o | .ldy o => operandSyntax o
  | .inc m | .dec m | .bit m | .sta m | .stx m | .sty m => memSyntax m
  | .asl o | .lsr o | .rol o | .ror o => shiftSyntax o
  | .bcc off | .bcs off | .beq off | .bne off | .bmi off | .bpl off | .bvc off | .bvs off =>
    hexWord (addr + 2 + sext16 off)
  | .jsr w | .jmpAbs w => hexWord w
  | .jmpInd w => '(' :: hexWord w ++ [')']
  | .unmapped op => hexByte op
  | .inx | .iny | .dex | .dey | .tax | .tay | .txa | .tya | .tsx | .txs => []
  | .pha | .php | .pla | .plp | .rts | .brk | .rti => []
  | .clc | .cld | .cli | .clv | .sec | .sed | .sei | .nop => []

/-- The instruction at `addr` in assembly syntax. -/
def assembly (addr : Word) (i : Instr) : List Char :=
  match operandField addr i with
  | [] => mnemonic i
  | f => mnemonic i ++ ' ' :: f

/-- The operand byte an assembler gives a branch at `addr` to `target`: `target - (addr + 2)`, which must lie in -128 to
+127 (R92). -/
def branchOperand (addr target : Word) : Option Byte :=
  let d := target - (addr + 2)
  if sext16 (lowByte d) = d then some (lowByte d) else none

/-- The mode an assembler gives a plain address: zero-page when the mnemonic has that form and the address is below
0x0100, else absolute (R92). -/
def plainMode (hasZeroPage : Bool) (w : Word) : MemMode :=
  if hasZeroPage && decide (w.toNat < 0x0100) then .zp (lowByte w) else .abs w

end Sys2Proof.Machine
end

