-- ==== Sys2Proof/Machine/HostOps.lean ====
section
/-! DEFINITION. What the host may read and write between steps (spec/70_reset_and_hazards.md R294 to R296): the launch
state of a claim is the reset state followed by any sequence of these writes (spec/00_scope.md R6, R292). -/

namespace Sys2Proof.Machine

/-- `load_program(bytes, at)`: `bytes[i]` to `(at + i) mod 65536`, in order, and nothing else; PC is not moved (R294). -/
def State.loadProgram (s : State) (bytes : List Byte) (addr : Word) : State := s.writeBytes addr bytes

/-- `set_byte(a, v)` (R296) -/
def State.setByte (s : State) (a : Word) (v : Byte) : State := s.writeByte a v

/-- `set_word(a, w)`: the low byte at `a`, then the high byte at `a + 1` (R54, R296) -/
def State.setWord (s : State) (a : Word) (w : Word) : State := (s.writeByte a (lowByte w)).writeByte (a + 1) (highByte w)

/-- The status setter: the seven flags from the byte, bit 5 ignored (R296) -/
def State.setStatus (s : State) (p : Byte) : State := s.setP p

/-- `get_byte(a)` (R295) -/
def State.getByte (s : State) (a : Word) : Byte := s.readByte a

/-- `get_word(a)`, little-endian (R295) -/
def State.getWord (s : State) (a : Word) : Word := s.readWord a

/-- The status getter: the byte P (R295) -/
def State.getStatus (s : State) : Byte := s.p

/-- One host write (R294, R296). -/
inductive HostWrite where
  | loadProgram (bytes : List Byte) (addr : Word)
  | setByte (a : Word) (v : Byte)
  | setWord (a : Word) (w : Word)
  | setA (v : Byte)
  | setX (v : Byte)
  | setY (v : Byte)
  | setSp (v : Byte)
  | setPc (w : Word)
  | setStatus (p : Byte)
  deriving DecidableEq, Repr

/-- The state after a host write. None is refused (R296). -/
def State.hostWrite (s : State) : HostWrite → State
  | .loadProgram bytes addr => s.loadProgram bytes addr
  | .setByte a v => s.setByte a v
  | .setWord a w => s.setWord a w
  | .setA v => s.setA v
  | .setX v => s.setX v
  | .setY v => s.setY v
  | .setSp v => s.setSp v
  | .setPc w => s.setPc w
  | .setStatus p => s.setStatus p

/-- The launch state: reset, then the host's writes in order (R6, R292). The writes are the parameter LAUNCH of D24. -/
def launch (writes : List HostWrite) : State := writes.foldl State.hostWrite State.reset

end Sys2Proof.Machine
end

