-- ==== Sys2Proof/Machine/Session.lean ====
section
/-! DEFINITION. The host's calls (spec/70_reset_and_hazards.md R297) and the end of a run (R298). The host acts only
between steps, so a session is a list of interactions taken one after another. -/

namespace Sys2Proof.Machine

/-- The host interactions that change the state (R297). The reads of R295 change nothing, and "stop" is the host's ceasing
to call. -/
inductive HostAction where
  /-- `new()`: a fresh state (R290) -/
  | new
  | write (w : HostWrite)
  /-- `execute_next()` -/
  | executeNext
  deriving DecidableEq, Repr

/-- One interaction. -/
def hostAct (h : HostAction) (s : State) : Result :=
  match h with
  | .new => .next State.reset
  | .write w => .next (s.hostWrite w)
  | .executeNext => step s

/-- A session: the interactions in order, stopping at a step that does not answer a next state (none does, R261). -/
def session : List HostAction → State → Result
  | [], s => .next s
  | h :: rest, s =>
    match hostAct h s with
    | .next t => session rest t
    | .fault r => .fault r
    | .refused r => .refused r

/-- The end of a run within `maxSteps` steps (R298): the first k below `maxSteps` whose step leaves PC unchanged, with
k and the state before that step; none when there is no such k. `maxSteps` is the parameter MAX_STEPS of D25. -/
def runEnd : Nat → State → Option (Nat × State)
  | 0, _ => none
  | k + 1, s =>
    match step s with
    | .next t => if t.pc = s.pc then some (0, s) else (runEnd k t).map fun e => (e.1 + 1, e.2)
    | .fault _ => none
    | .refused _ => none

end Sys2Proof.Machine
end

