-- ==== Sys2Proof/Safety.lean ====
section
/-! DEFINITION. The terms that claims use: which parts of the state an instruction may change, where a store goes, what a
completed instruction leaves, the invariant of memory, and a safe run. -/

namespace Sys2Proof.Machine

/-- The parts of the state: the elements of the tuple of spec/10_state.md R20. -/
inductive Part where
  | a | x | y | sp | pc | n | v | b | d | i | z | c | mem
  deriving DecidableEq, Repr

/-- The part is the same in both states; for memory, every byte of the address space reads the same. -/
def Part.Same (s t : State) : Part → Prop
  | .a => t.a = s.a
  | .x => t.x = s.x
  | .y => t.y = s.y
  | .sp => t.sp = s.sp
  | .pc => t.pc = s.pc
  | .n => t.n = s.n
  | .v => t.v = s.v
  | .b => t.b = s.b
  | .d => t.d = s.d
  | .i => t.i = s.i
  | .z => t.z = s.z
  | .c => t.c = s.c
  | .mem => ∀ w : Word, t.readByte w = s.readByte w

/-- Every part that is not listed is the same in both states (R35: a flag not named is unchanged). -/
def ChangesOnly (ps : List Part) (s t : State) : Prop := ∀ p : Part, p ∉ ps → p.Same s t

/-- Of memory, exactly the byte at `ea` may have changed, and it is now `v` (R52). -/
def StoresByte (ea : Word) (v : Byte) (s t : State) : Prop :=
  t.readByte ea = v ∧ ∀ w : Word, w ≠ ea → t.readByte w = s.readByte w

/-- The instruction completes: it answers a next state, and `Q` holds of it. -/
def Completes (i : Instr) (s : State) (Q : State → Prop) : Prop := ∃ t, exec i s = .next t ∧ Q t

/-- Z and N reflect the byte `r`: `Z <- (r = 0); N <- r[7]` (R36). -/
def ReflectsNZ (r : Byte) (t : State) : Prop := t.z = decide (r.toNat = 0) ∧ t.n = r.getLsbD 7

/-- PC is past an instruction of `k` bytes that began at the PC of `s`, modulo 65,536 (R25). -/
def PcPast (k : Nat) (s t : State) : Prop := t.pc.toNat = (s.pc.toNat + k) % 65536

/-- A branch with its condition: PC becomes the address after the branch, plus the signed offset when the condition holds,
modulo 65,536, and nothing else changes (R220). -/
def BranchesWhen (cond : Bool) (off : Byte) (i : Instr) (s : State) : Prop :=
  Completes i s fun t =>
    (t.pc.toNat : Int) = ((s.pc.toNat : Int) + 2 + if cond then off.toInt else 0) % 65536 ∧
    ChangesOnly [.pc] s t

/-- The instructions that write PC beyond moving past their own bytes (R25). -/
def isTransfer : Instr → Bool
  | .jsr _ | .rts | .brk | .rti | .jmpAbs _ | .jmpInd _ => true
  | .bcc _ | .bcs _ | .beq _ | .bne _ | .bmi _ | .bpl _ | .bvc _ | .bvs _ => true
  | .adc _ | .sbc _ | .and _ | .ora _ | .eor _ | .cmp _ | .cpx _ | .cpy _ | .lda _ | .ldx _ | .ldy _ => false
  | .asl _ | .lsr _ | .rol _ | .ror _ => false
  | .inc _ | .dec _ | .bit _ | .sta _ | .stx _ | .sty _ => false
  | .inx | .iny | .dex | .dey | .tax | .tay | .txa | .tya | .tsx | .txs => false
  | .pha | .php | .pla | .plp => false
  | .clc | .cld | .cli | .clv | .sec | .sed | .sei | .nop | .unmapped _ => false

/-- Where a shift leaves its result: A, or the memory byte it read (R154). -/
def shiftPart : ShiftOperand → Part
  | .acc => .a
  | .mem _ => .mem

/-- The parts of the state that an instruction may write: the "Written by" lists of R21 to R34 and the writing accesses of
spec/20_memory.md R58, read instruction by instruction. -/
def writtenParts : Instr → List Part
  | .adc _ | .sbc _ => [.a, .pc, .n, .v, .z, .c]
  | .and _ | .ora _ | .eor _ | .lda _ | .txa | .tya => [.a, .pc, .n, .z]
  | .ldx _ | .tax | .tsx | .inx | .dex => [.x, .pc, .n, .z]
  | .ldy _ | .tay | .iny | .dey => [.y, .pc, .n, .z]
  | .inc _ | .dec _ => [.mem, .pc, .n, .z]
  | .asl o | .lsr o | .rol o | .ror o => [shiftPart o, .pc, .n, .z, .c]
  | .bit _ => [.pc, .n, .v, .z]
  | .cmp _ | .cpx _ | .cpy _ => [.pc, .n, .z, .c]
  | .sta _ | .stx _ | .sty _ => [.mem, .pc]
  | .txs => [.sp, .pc]
  | .pha | .php | .jsr _ => [.mem, .sp, .pc]
  | .pla => [.a, .sp, .pc, .n, .z]
  | .plp | .rti => [.sp, .pc, .n, .v, .b, .d, .i, .z, .c]
  | .rts => [.sp, .pc]
  | .brk => [.mem, .sp, .pc, .b]
  | .bcc _ | .bcs _ | .beq _ | .bne _ | .bmi _ | .bpl _ | .bvc _ | .bvs _ | .jmpAbs _ | .jmpInd _ => [.pc]
  | .clc | .sec => [.pc, .c]
  | .cld | .sed => [.pc, .d]
  | .cli | .sei => [.pc, .i]
  | .clv => [.pc, .v]
  | .nop | .unmapped _ => [.pc]

/-- The addresses an instruction stores to from state `s`, as its meaning computes them: the effective address of a store
or a read-modify-write, the stack addresses of the pushes in their order (R58, R119, R200, R202, R213). The meanings compute
an effective address after moving PC past their bytes, which no mode reads. -/
def storedAddrs (s : State) : Instr → List Word
  | .sta m | .stx m | .sty m | .inc m | .dec m => [s.effAddr m]
  | .asl o | .lsr o | .rol o | .ror o =>
    match o with
    | .acc => []
    | .mem m => [s.effAddr m]
  | .pha | .php => [stackAddr s.sp]
  | .jsr _ => [stackAddr s.sp, stackAddr (s.sp - 1)]
  | .brk => [stackAddr s.sp, stackAddr (s.sp - 1), stackAddr (s.sp - 1 - 1)]
  | .adc _ | .sbc _ | .and _ | .ora _ | .eor _ | .bit _ | .cmp _ | .cpx _ | .cpy _ | .lda _ | .ldx _ | .ldy _ => []
  | .inx | .iny | .dex | .dey | .tax | .tay | .txa | .tya | .tsx | .txs => []
  | .pla | .plp | .rts | .rti | .jmpAbs _ | .jmpInd _ => []
  | .bcc _ | .bcs _ | .beq _ | .bne _ | .bmi _ | .bpl _ | .bvc _ | .bvs _ => []
  | .clc | .cld | .cli | .clv | .sec | .sed | .sei | .nop | .unmapped _ => []

/-- The invariant of every state that reset and the machine's operations make: memory is in its canonical form. -/
abbrev State.Inv (s : State) : Prop := Memory.wf s.mem = true

/-- A safe step: it ends in a next state (R261). Every step of this engine is safe. -/
def SafeStep (s : State) : Prop := ∃ t, step s = .next t

end Sys2Proof.Machine
end

