-- ==== Sys2Proof/Certificates/Slice0/Obligations.lean ====
section
/-! DEFINITION. The statements about the machine, from the numbered rules of the spec. Results are said in the spec's own
arithmetic (natural numbers, modulo 256 or 65,536, single bits), apart from the definitions of the meanings. A statement
that rests on a point the spec marks as its own decision or as general knowledge names the decision D<n> here and has the
basis 'derived' in OBLIGATIONS.json. -/

open Sys2Proof Sys2Proof.Machine

/-! ### Reset, step, decoding -/

/-- R41, R290: every element of the state after reset. PC = 0 is the spec's own decision D13 on its conflict C3
(notes/assumptions/8.md), and that "the memory words at the three vectors read 0x0000" is an inference that R41 marks as
its own, "[derived: from the table and 20_memory.md rule R53]". -/
def Obligations.ResetLeavesTheStatedValues : Prop :=
  State.reset.a.toNat = 0 ∧ State.reset.x.toNat = 0 ∧ State.reset.y.toNat = 0 ∧
  State.reset.sp.toNat = 0xFF ∧ State.reset.pc.toNat = 0 ∧
  State.reset.n = false ∧ State.reset.v = false ∧ State.reset.b = false ∧ State.reset.d = false ∧
  State.reset.i = false ∧ State.reset.z = false ∧ State.reset.c = false ∧ State.reset.p.toNat = 0 ∧
  (∀ w : Word, (State.reset.readByte w).toNat = 0) ∧
  (State.reset.readWord Config.nmiVector).toNat = 0 ∧ (State.reset.readWord Config.resetVector).toNat = 0 ∧
  (State.reset.readWord Config.irqVector).toNat = 0

/-- The invariant of memory (a DESIGN CHOICE of the model's representation, notes/assumptions/10.md) holds at reset. -/
def Obligations.ResetMemoryIsCanonical : Prop := State.reset.Inv

/-- Every step from a state whose memory is canonical gives one whose memory is canonical (notes/assumptions/10.md: a
DESIGN CHOICE of the model; R39, R52 say what the list stands for). -/
def Obligations.StepKeepsMemoryCanonical : Prop := ∀ s t : State, s.Inv → step s = .next t → t.Inv

/-- The host's writes keep it too, so every launch state has it (notes/assumptions/10.md; R6, R296). -/
def Obligations.HostWritesKeepMemoryCanonical : Prop :=
  (∀ (s : State) (h : HostWrite), s.Inv → (s.hostWrite h).Inv) ∧ ∀ writes : List HostWrite, (launch writes).Inv

/-- R100, R103: the step runs the instruction that the bytes at PC, PC + 1 and PC + 2 (modulo 65,536) decode to. That all of
an instruction's bytes are read before its meaning, and that `exec` moves PC past them itself so that the step adds nothing
around it, is the model's choice, DEDUCED in notes/assumptions/9.md; the order of accesses behind it is the spec's decision
D21, and when a store is seen by the fetch its decision D20. -/
def Obligations.StepRunsTheDecodedInstruction : Prop :=
  ∀ (s : State) (i : Instr) (rest : List Byte),
    decode [s.readByte s.pc, s.readByte (s.pc + 1), s.readByte (s.pc + 2)] = .ok (i, rest) → step s = exec i s

/-- R260, R261: every instruction and every step ends in a next state. -/
def Obligations.EveryStepAnswersANextState : Prop :=
  (∀ (i : Instr) (s : State), ∃ t, exec i s = .next t) ∧ ∀ s : State, SafeStep s

/-- Decoding the bytes of a well-formed instruction gives it back, and leaves the bytes after it (R87, R88; the byte
values are the spec's decision D17, notes/assumptions/1.md). -/
def Obligations.DecodeOfEncodeIsTheInstruction : Prop :=
  ∀ i : Instr, i.wf = true →
    ∃ bytes : List Byte, encode i = some bytes ∧ ∀ rest : List Byte, decode (bytes ++ rest) = .ok (i, rest)

/-- What decodes is well-formed and its encoding is exactly the bytes consumed, so no two byte strings share a meaning; and
the instructions with an encoding are the well-formed ones (R87, R88, R89, R122; D17, notes/assumptions/1.md). -/
def Obligations.EncodeOfDecodeIsTheBytes : Prop :=
  (∀ (bytes : List Byte) (i : Instr) (rest : List Byte), decode bytes = .ok (i, rest) →
    i.wf = true ∧ ∃ head : List Byte, encode i = some head ∧ bytes = head ++ rest) ∧
  ∀ i : Instr, (encode i).isSome = i.wf

/-- R89: the bytes that decode as unmapped, consuming one byte, are exactly the 105 listed (D17, D8;
notes/assumptions/1.md, 5.md). -/
def Obligations.UnmappedBytesAreThoseListed : Prop :=
  unmappedOpcodes.length = 105 ∧ unmappedOpcodes.Nodup ∧
  ∀ (op : Byte) (rest : List Byte), decode (op :: rest) = .ok (.unmapped op, rest) ↔ op ∈ unmappedOpcodes

/-- R82, R101: every opcode byte decodes, given the bytes that follow it, and the length, 1 to 3, is a function of the
opcode byte alone (`Template.length`). -/
def Obligations.EveryByteDecodesAndFixesItsLength : Prop :=
  ∀ (op b1 b2 : Byte) (rest : List Byte), ∃ (i : Instr) (tail : List Byte),
    decode (op :: b1 :: b2 :: rest) = .ok (i, tail) ∧ tail = (op :: b1 :: b2 :: rest).drop (instrLength i) ∧
    instrLength i = (templateOf op).length ∧ 1 ≤ instrLength i ∧ instrLength i ≤ 3

/-- A word of each family, written out from R88 and R92 (D17, notes/assumptions/1.md); that the unmapped byte 0x80 (R89)
leaves the byte after it unread is R248's length of one, the spec's decision D8 (notes/assumptions/5.md). -/
def Obligations.SampleWordsDecode : Prop :=
  decode [0x69, 0x24] = .ok (.adc (.imm 0x24), []) ∧
  decode [0x5D, 0x34, 0x12] = .ok (.eor (.mem (.absx 0x1234)), []) ∧
  decode [0x6A] = .ok (.ror .acc, []) ∧
  decode [0xC1, 0x20] = .ok (.cmp (.mem (.indx 0x20)), []) ∧
  decode [0x96, 0x10] = .ok (.stx (.zpy 0x10), []) ∧
  decode [0x20, 0x34, 0x12] = .ok (.jsr 0x1234, []) ∧
  decode [0xD0, 0xFB] = .ok (.bne 0xFB, []) ∧
  decode [0x6C, 0xFF, 0x10] = .ok (.jmpInd 0x10FF, []) ∧
  decode [0xF8] = .ok (.sed, []) ∧
  decode [0x80, 0xA9] = .ok (.unmapped 0x80, [0xA9])

/-- R92, R114: the operand byte an assembler gives a branch takes it to its target, every offset is some target's, and a
target out of reach has none (D18, notes/assumptions/14.md). -/
def Obligations.BranchOperandReachesItsTarget : Prop :=
  (∀ (addr target : Word) (off : Byte), branchOperand addr target = some off →
    ((addr.toNat : Int) + 2 + off.toInt) % 65536 = target.toNat) ∧
  (∀ (addr : Word) (off : Byte), branchOperand addr (addr + 2 + sext16 off) = some off) ∧
  ∀ addr target : Word, branchOperand addr target = none →
    ∀ off : Byte, ((addr.toNat : Int) + 2 + off.toInt) % 65536 ≠ target.toNat

/-! ### Memory and addressing -/

/-- R52: a byte write changes its cell and nothing else, a read gives the byte last written, and 0x00 where none was. -/
def Obligations.ByteReadGivesTheLastWrite : Prop :=
  (∀ (s : State) (a : Word) (u : Byte),
    StoresByte a u s (s.writeByte a u) ∧ ChangesOnly [.mem] s (s.writeByte a u)) ∧
  ∀ a : Word, State.reset.readByte a = 0

/-- R53: a word read is little-endian, its second byte at the next address modulo 65,536 (D16, notes/assumptions/7.md). -/
def Obligations.WordReadIsLittleEndian : Prop :=
  ∀ (s : State) (a : Word),
    (s.readWord a).toNat =
      (s.readByte (BitVec.ofNat 16 ((a.toNat + 1) % 65536))).toNat * 256 + (s.readByte a).toNat

/-- Two canonical memories that read alike at every address are the same list (notes/assumptions/10.md: a DESIGN CHOICE of
the model; R39). -/
def Obligations.EqualReadsMeanEqualMemories : Prop :=
  ∀ m m' : Memory, Memory.wf m = true → Memory.wf m' = true →
    (∀ a : Nat, a < 65536 → Memory.read m a = Memory.read m' a) → m = m'

/-- R105 to R111, R118: the effective address and the number of operand bytes of the modes that read no pointer, and the
value of an operand. The wrap of the absolute index is an inference that R110 marks as its own, "[derived: from
20_memory.md rule R51]". -/
def Obligations.EffectiveAddressesWrap : Prop :=
  ∀ (s : State) (nn : Byte) (w : Word) (m : MemMode),
    ((s.effAddr (.zp nn)).toNat = nn.toNat ∧ memSize (.zp nn) = 1) ∧
    ((s.effAddr (.zpx nn)).toNat = (nn.toNat + s.x.toNat) % 256 ∧ memSize (.zpx nn) = 1) ∧
    ((s.effAddr (.zpy nn)).toNat = (nn.toNat + s.y.toNat) % 256 ∧ memSize (.zpy nn) = 1) ∧
    ((s.effAddr (.abs w)).toNat = w.toNat ∧ memSize (.abs w) = 2) ∧
    ((s.effAddr (.absx w)).toNat = (w.toNat + s.x.toNat) % 65536 ∧ memSize (.absx w) = 2) ∧
    ((s.effAddr (.absy w)).toNat = (w.toNat + s.y.toNat) % 65536 ∧ memSize (.absy w) = 2) ∧
    (s.operand (.imm nn) = nn ∧ operandSize (.imm nn) = 1) ∧
    (s.operand (.mem m) = s.readByte (s.effAddr m) ∧ operandSize (.mem m) = memSize m)

/-- R112, R113: the pointer modes. The pointer's address is in zero page, its second byte is at the next address, 0x0100
for a pointer at 0x00FF (D10, notes/assumptions/7.md), and Y is added to the pointer modulo 65,536. -/
def Obligations.PointerModesReadTheirPointer : Prop :=
  ∀ (s : State) (nn : Byte),
    (let p := (nn.toNat + s.x.toNat) % 256
     (s.effAddr (.indx nn)).toNat =
       (s.readByte (BitVec.ofNat 16 (p + 1))).toNat * 256 + (s.readByte (BitVec.ofNat 16 p)).toNat ∧
     memSize (.indx nn) = 1) ∧
    (let p := nn.toNat
     (s.effAddr (.indy nn)).toNat =
       ((s.readByte (BitVec.ofNat 16 (p + 1))).toNat * 256 + (s.readByte (BitVec.ofNat 16 p)).toNat
         + s.y.toNat) % 65536 ∧
     memSize (.indy nn) = 1)

/-! ### Arithmetic -/

/-- R130, R131: ADC, for every operand. -/
def Obligations.AdcAddsWithCarry : Prop :=
  ∀ (o : Operand) (s : State),
    Completes (.adc o) s fun t =>
      let m := s.operand o
      let sum := s.a.toNat + m.toNat + s.c.toNat
      t.a.toNat = sum % 256 ∧ t.c = decide (sum > 255) ∧
      (t.v = true ↔ s.a.getLsbD 7 = m.getLsbD 7 ∧ t.a.getLsbD 7 ≠ s.a.getLsbD 7) ∧
      ReflectsNZ t.a t ∧ PcPast (1 + operandSize o) s t ∧ ChangesOnly [.a, .pc, .n, .v, .z, .c] s t

/-- R132: SBC adds the inverted operand, for every operand. -/
def Obligations.SbcAddsTheInvertedOperand : Prop :=
  ∀ (o : Operand) (s : State),
    Completes (.sbc o) s fun t =>
      let m := 0xFF - (s.operand o).toNat
      let sum := s.a.toNat + m + s.c.toNat
      t.a.toNat = sum % 256 ∧ t.c = decide (sum > 255) ∧
      (t.v = true ↔ s.a.getLsbD 7 = m.testBit 7 ∧ t.a.getLsbD 7 ≠ s.a.getLsbD 7) ∧
      ReflectsNZ t.a t ∧ PcPast (1 + operandSize o) s t ∧ ChangesOnly [.a, .pc, .n, .v, .z, .c] s t

/-- R130, R132, the readings the spec derives: V is set exactly when the signed result lies outside -128 to 127, and SBC's
carry is "not borrow". -/
def Obligations.OverflowIsTheSignedRangeAndCarryIsNotBorrow : Prop :=
  ∀ (o : Operand) (s : State),
    (Completes (.adc o) s fun t =>
      let r := s.a.toInt + (s.operand o).toInt + (s.c.toNat : Int)
      t.v = true ↔ r < -128 ∨ 127 < r) ∧
    (Completes (.sbc o) s fun t =>
      let r := s.a.toInt - (s.operand o).toInt - (1 - (s.c.toNat : Int))
      let d := (s.a.toNat : Int) - (s.operand o).toNat - (1 - (s.c.toNat : Int))
      (t.v = true ↔ r < -128 ∨ 127 < r) ∧ (t.a.toNat : Int) = d % 256 ∧ (t.c = true ↔ 0 ≤ d))

/-- R132, as the spec derives it from R130: subtracting with C = 1 what was added with C = 0 gives A back. -/
def Obligations.SbcUndoesAdc : Prop :=
  ∀ (nn : Byte) (s : State),
    Completes (.adc (.imm nn)) (s.setC false) fun t =>
      Completes (.sbc (.imm nn)) (t.setC true) fun u => u.a = s.a

/-- R139: D changes nothing of ADC and SBC but itself. -/
def Obligations.DecimalFlagChangesNoArithmetic : Prop :=
  ∀ (o : Operand) (s : State) (f : Bool),
    (Completes (.adc o) s fun t => exec (.adc o) (s.setD f) = .next (t.setD f)) ∧
    (Completes (.sbc o) s fun t => exec (.sbc o) (s.setD f) = .next (t.setD f))

/-- R133, R134: INC and DEC read the byte at the effective address and write it back there. -/
def Obligations.IncDecWrapTheMemoryByte : Prop :=
  ∀ (m : MemMode) (s : State),
    let old := (s.readByte (s.effAddr m)).toNat
    (Completes (.inc m) s fun t =>
      let r := BitVec.ofNat 8 ((old + 1) % 256)
      StoresByte (s.effAddr m) r s t ∧ ReflectsNZ r t ∧ PcPast (1 + memSize m) s t ∧
      ChangesOnly [.mem, .pc, .n, .z] s t) ∧
    (Completes (.dec m) s fun t =>
      let r := BitVec.ofNat 8 ((old + 255) % 256)
      StoresByte (s.effAddr m) r s t ∧ ReflectsNZ r t ∧ PcPast (1 + memSize m) s t ∧
      ChangesOnly [.mem, .pc, .n, .z] s t)

/-- R135 to R138: INX, INY, DEX, DEY (that they follow the inc/dec rule is the spec's own inference). -/
def Obligations.IndexIncDecWrap : Prop :=
  ∀ s : State,
    (Completes .inx s fun t =>
      t.x.toNat = (s.x.toNat + 1) % 256 ∧ ReflectsNZ t.x t ∧ PcPast 1 s t ∧ ChangesOnly [.x, .pc, .n, .z] s t) ∧
    (Completes .iny s fun t =>
      t.y.toNat = (s.y.toNat + 1) % 256 ∧ ReflectsNZ t.y t ∧ PcPast 1 s t ∧ ChangesOnly [.y, .pc, .n, .z] s t) ∧
    (Completes .dex s fun t =>
      t.x.toNat = (s.x.toNat + 255) % 256 ∧ ReflectsNZ t.x t ∧ PcPast 1 s t ∧ ChangesOnly [.x, .pc, .n, .z] s t) ∧
    (Completes .dey s fun t =>
      t.y.toNat = (s.y.toNat + 255) % 256 ∧ ReflectsNZ t.y t ∧ PcPast 1 s t ∧ ChangesOnly [.y, .pc, .n, .z] s t)

/-! ### Bitwise, shifts and rotates -/

/-- R150, R151, R152: AND, ORA and EOR combine A with the operand bit by bit; C and V stay. -/
def Obligations.LogicCombinesBits : Prop :=
  ∀ (o : Operand) (s : State),
    (Completes (.and o) s fun t =>
      (∀ k < 8, t.a.getLsbD k = (s.a.getLsbD k && (s.operand o).getLsbD k)) ∧
      ReflectsNZ t.a t ∧ PcPast (1 + operandSize o) s t ∧ ChangesOnly [.a, .pc, .n, .z] s t) ∧
    (Completes (.ora o) s fun t =>
      (∀ k < 8, t.a.getLsbD k = (s.a.getLsbD k || (s.operand o).getLsbD k)) ∧
      ReflectsNZ t.a t ∧ PcPast (1 + operandSize o) s t ∧ ChangesOnly [.a, .pc, .n, .z] s t) ∧
    (Completes (.eor o) s fun t =>
      (∀ k < 8, t.a.getLsbD k = (s.a.getLsbD k ^^ (s.operand o).getLsbD k)) ∧
      ReflectsNZ t.a t ∧ PcPast (1 + operandSize o) s t ∧ ChangesOnly [.a, .pc, .n, .z] s t)

/-- R153: BIT takes Z from `A & m` and N, V from bits 7 and 6 of the memory byte, and stores nothing. -/
def Obligations.BitTestsTheMemoryByte : Prop :=
  ∀ (m : MemMode) (s : State),
    Completes (.bit m) s fun t =>
      let u := s.readByte (s.effAddr m)
      (t.z = true ↔ ∀ k < 8, (s.a.getLsbD k && u.getLsbD k) = false) ∧
      t.n = u.getLsbD 7 ∧ t.v = u.getLsbD 6 ∧ PcPast (1 + memSize m) s t ∧ ChangesOnly [.pc, .n, .v, .z] s t

/-- R154, R155, R156: ASL doubles modulo 256 and LSR halves, the bit shifted out to C, in A or back to the address read. -/
def Obligations.ShiftsMoveTheOuterBitToCarry : Prop :=
  ∀ (s : State) (m : MemMode),
    let u := (s.readByte (s.effAddr m)).toNat
    (Completes (.asl .acc) s fun t =>
      t.a.toNat = (2 * s.a.toNat) % 256 ∧ t.c = s.a.getLsbD 7 ∧ ReflectsNZ t.a t ∧ PcPast 1 s t ∧
      ChangesOnly [.a, .pc, .n, .z, .c] s t) ∧
    (Completes (.asl (.mem m)) s fun t =>
      let r := BitVec.ofNat 8 ((2 * u) % 256)
      StoresByte (s.effAddr m) r s t ∧ t.c = u.testBit 7 ∧ ReflectsNZ r t ∧ PcPast (1 + memSize m) s t ∧
      ChangesOnly [.mem, .pc, .n, .z, .c] s t) ∧
    (Completes (.lsr .acc) s fun t =>
      t.a.toNat = s.a.toNat / 2 ∧ t.c = s.a.getLsbD 0 ∧ ReflectsNZ t.a t ∧ PcPast 1 s t ∧
      ChangesOnly [.a, .pc, .n, .z, .c] s t) ∧
    (Completes (.lsr (.mem m)) s fun t =>
      let r := BitVec.ofNat 8 (u / 2)
      StoresByte (s.effAddr m) r s t ∧ t.c = u.testBit 0 ∧ ReflectsNZ r t ∧ PcPast (1 + memSize m) s t ∧
      ChangesOnly [.mem, .pc, .n, .z, .c] s t)

/-- R154, R157, R158: ROL and ROR shift the old C in at the vacated end and the bit shifted out to C. -/
def Obligations.RotatesGoThroughCarry : Prop :=
  ∀ (s : State) (m : MemMode),
    let u := (s.readByte (s.effAddr m)).toNat
    (Completes (.rol .acc) s fun t =>
      t.a.toNat = (2 * s.a.toNat + s.c.toNat) % 256 ∧ t.c = s.a.getLsbD 7 ∧ ReflectsNZ t.a t ∧ PcPast 1 s t ∧
      ChangesOnly [.a, .pc, .n, .z, .c] s t) ∧
    (Completes (.rol (.mem m)) s fun t =>
      let r := BitVec.ofNat 8 ((2 * u + s.c.toNat) % 256)
      StoresByte (s.effAddr m) r s t ∧ t.c = u.testBit 7 ∧ ReflectsNZ r t ∧ PcPast (1 + memSize m) s t ∧
      ChangesOnly [.mem, .pc, .n, .z, .c] s t) ∧
    (Completes (.ror .acc) s fun t =>
      t.a.toNat = s.a.toNat / 2 + 128 * s.c.toNat ∧ t.c = s.a.getLsbD 0 ∧ ReflectsNZ t.a t ∧ PcPast 1 s t ∧
      ChangesOnly [.a, .pc, .n, .z, .c] s t) ∧
    (Completes (.ror (.mem m)) s fun t =>
      let r := BitVec.ofNat 8 (u / 2 + 128 * s.c.toNat)
      StoresByte (s.effAddr m) r s t ∧ t.c = u.testBit 0 ∧ ReflectsNZ r t ∧ PcPast (1 + memSize m) s t ∧
      ChangesOnly [.mem, .pc, .n, .z, .c] s t)

/-- `n` ROLs of the accumulator in a row. -/
def rolTimes : Nat → State → Result
  | 0, s => .next s
  | n + 1, s =>
    match exec (.rol .acc) s with
    | .next t => rolTimes n t
    | .fault r => .fault r
    | .refused r => .refused r

/-- R157, as the spec derives it: nine ROLs, with no other write of C, restore the cell (here A) and C. -/
def Obligations.NineRolsRestoreAAndCarry : Prop :=
  ∀ s : State, ∃ t, rolTimes 9 s = .next t ∧ t.a = s.a ∧ t.c = s.c ∧ ChangesOnly [.pc, .n, .z] s t

/-! ### Compare -/

/-- R170 to R173: C from the unsigned order, Z from equality, N bit 7 of the difference, V and the register as before (N
and V are the spec's decision D9, notes/assumptions/6.md). -/
def Obligations.CompareSetsFlagsFromTheDifference : Prop :=
  ∀ (o : Operand) (s : State),
    let m := (s.operand o).toNat
    let compares := fun (i : Instr) (r : Byte) => Completes i s fun t =>
      t.c = decide (r.toNat ≥ m) ∧ t.z = decide (r.toNat = m) ∧ t.n = ((r.toNat + 256 - m) % 256).testBit 7 ∧
      PcPast (1 + operandSize o) s t ∧ ChangesOnly [.pc, .n, .z, .c] s t
    compares (.cmp o) s.a ∧ compares (.cpx o) s.x ∧ compares (.cpy o) s.y

/-- R170, as the spec derives it: CMP's C, Z and N are those of SBC with C = 1 on the same values (D9 for N). -/
def Obligations.CompareAgreesWithSbc : Prop :=
  ∀ (o : Operand) (s : State),
    Completes (.cmp o) s fun t =>
      Completes (.sbc o) (s.setC true) fun u => t.c = u.c ∧ t.z = u.z ∧ t.n = u.n

/-! ### Loads, stores and transfers -/

/-- R180, R181, R182: a load copies the operand and sets N and Z from it. -/
def Obligations.LoadsCopyTheOperand : Prop :=
  ∀ (o : Operand) (s : State),
    (Completes (.lda o) s fun t =>
      t.a = s.operand o ∧ ReflectsNZ (s.operand o) t ∧ PcPast (1 + operandSize o) s t ∧
      ChangesOnly [.a, .pc, .n, .z] s t) ∧
    (Completes (.ldx o) s fun t =>
      t.x = s.operand o ∧ ReflectsNZ (s.operand o) t ∧ PcPast (1 + operandSize o) s t ∧
      ChangesOnly [.x, .pc, .n, .z] s t) ∧
    (Completes (.ldy o) s fun t =>
      t.y = s.operand o ∧ ReflectsNZ (s.operand o) t ∧ PcPast (1 + operandSize o) s t ∧
      ChangesOnly [.y, .pc, .n, .z] s t)

/-- R183, R184, R185: a store writes the register to the effective address and no flag. -/
def Obligations.StoresWriteTheRegister : Prop :=
  ∀ (m : MemMode) (s : State),
    (Completes (.sta m) s fun t =>
      StoresByte (s.effAddr m) s.a s t ∧ PcPast (1 + memSize m) s t ∧ ChangesOnly [.mem, .pc] s t) ∧
    (Completes (.stx m) s fun t =>
      StoresByte (s.effAddr m) s.x s t ∧ PcPast (1 + memSize m) s t ∧ ChangesOnly [.mem, .pc] s t) ∧
    (Completes (.sty m) s fun t =>
      StoresByte (s.effAddr m) s.y s t ∧ PcPast (1 + memSize m) s t ∧ ChangesOnly [.mem, .pc] s t)

/-- R186 to R189: TAX, TAY, TXA, TYA copy the register and set N and Z from it. -/
def Obligations.TransfersCopyTheRegister : Prop :=
  ∀ s : State,
    (Completes .tax s fun t => t.x = s.a ∧ ReflectsNZ s.a t ∧ PcPast 1 s t ∧ ChangesOnly [.x, .pc, .n, .z] s t) ∧
    (Completes .tay s fun t => t.y = s.a ∧ ReflectsNZ s.a t ∧ PcPast 1 s t ∧ ChangesOnly [.y, .pc, .n, .z] s t) ∧
    (Completes .txa s fun t => t.a = s.x ∧ ReflectsNZ s.x t ∧ PcPast 1 s t ∧ ChangesOnly [.a, .pc, .n, .z] s t) ∧
    (Completes .tya s fun t => t.a = s.y ∧ ReflectsNZ s.y t ∧ PcPast 1 s t ∧ ChangesOnly [.a, .pc, .n, .z] s t)

/-- R190, R191: TSX copies SP to X with N and Z, TXS copies X to SP with no flag (both the spec's decision D12,
notes/assumptions/1.md). -/
def Obligations.StackPointerTransfers : Prop :=
  ∀ s : State,
    (Completes .tsx s fun t => t.x = s.sp ∧ ReflectsNZ s.sp t ∧ PcPast 1 s t ∧ ChangesOnly [.x, .pc, .n, .z] s t) ∧
    (Completes .txs s fun t => t.sp = s.x ∧ PcPast 1 s t ∧ ChangesOnly [.sp, .pc] s t)

/-! ### Stack, subroutine and interrupt -/

/-- R200, R205, R206: PHA and PHP write at 0x0100 + SP and move SP down modulo 256; PHP's byte is the flags with bit 5 as 0
(the write before the decrement is D3, the byte's layout D1 and D2; notes/assumptions/2.md, 3.md). -/
def Obligations.PushesWriteAtTheStackAddress : Prop :=
  ∀ s : State,
    let slot := BitVec.ofNat 16 (0x0100 + s.sp.toNat)
    (Completes .pha s fun t =>
      StoresByte slot s.a s t ∧ t.sp.toNat = (s.sp.toNat + 255) % 256 ∧ PcPast 1 s t ∧
      ChangesOnly [.mem, .sp, .pc] s t) ∧
    (Completes .php s fun t =>
      let p := s.n.toNat * 128 + s.v.toNat * 64 + s.b.toNat * 16 + s.d.toNat * 8 + s.i.toNat * 4 + s.z.toNat * 2 +
        s.c.toNat
      StoresByte slot (BitVec.ofNat 8 p) s t ∧ t.sp.toNat = (s.sp.toNat + 255) % 256 ∧ PcPast 1 s t ∧
      ChangesOnly [.mem, .sp, .pc] s t)

/-- R201, R207, R208: PLA and PLP move SP up modulo 256 and read there; PLP sets all seven flags and ignores bit 5 (D1, D2,
D3; notes/assumptions/2.md, 3.md). -/
def Obligations.PullsReadAtTheStackAddress : Prop :=
  ∀ s : State,
    let u := s.readByte (BitVec.ofNat 16 (0x0100 + (s.sp.toNat + 1) % 256))
    (Completes .pla s fun t =>
      t.a = u ∧ ReflectsNZ u t ∧ t.sp.toNat = (s.sp.toNat + 1) % 256 ∧ PcPast 1 s t ∧
      ChangesOnly [.a, .sp, .pc, .n, .z] s t) ∧
    (Completes .plp s fun t =>
      t.n = u.getLsbD 7 ∧ t.v = u.getLsbD 6 ∧ t.b = u.getLsbD 4 ∧ t.d = u.getLsbD 3 ∧ t.i = u.getLsbD 2 ∧
      t.z = u.getLsbD 1 ∧ t.c = u.getLsbD 0 ∧ t.sp.toNat = (s.sp.toNat + 1) % 256 ∧ PcPast 1 s t ∧
      ChangesOnly [.sp, .pc, .n, .v, .b, .d, .i, .z, .c] s t)

/-- R201, as the spec derives it: a pull undoes a push, for every SP; PLA after PHA gives A back, and PLP after PHP every
flag, whatever the flags and A are in between (D3). -/
def Obligations.PullUndoesPush : Prop :=
  ∀ (s : State) (u p : Byte),
    (Completes .pha s fun t => Completes .pla (t.setA u) fun r => r.a = s.a ∧ r.sp = s.sp) ∧
    (Completes .php s fun t => Completes .plp (t.setP p) fun r =>
      r.sp = s.sp ∧ r.n = s.n ∧ r.v = s.v ∧ r.b = s.b ∧ r.d = s.d ∧ r.i = s.i ∧ r.z = s.z ∧ r.c = s.c)

/-- R202, R209: JSR pushes the address after it, low byte first, and jumps (D3, D4, D5; notes/assumptions/3.md). -/
def Obligations.JsrPushesTheReturnAddress : Prop :=
  ∀ (target : Word) (s : State),
    Completes (.jsr target) s fun t =>
      let ret := (s.pc.toNat + 3) % 65536
      let slot := fun k : Nat => BitVec.ofNat 16 (0x0100 + (s.sp.toNat + 256 - k) % 256)
      (t.readByte (slot 0)).toNat = ret % 256 ∧ (t.readByte (slot 1)).toNat = ret / 256 ∧
      (∀ w : Word, w ≠ slot 0 → w ≠ slot 1 → t.readByte w = s.readByte w) ∧
      t.sp.toNat = (s.sp.toNat + 254) % 256 ∧ t.pc = target ∧ ChangesOnly [.mem, .sp, .pc] s t

/-- R203, R210: RTS pulls the high byte, then the low byte, and resumes exactly there (D3, D4, D5;
notes/assumptions/3.md). -/
def Obligations.RtsResumesAtThePulledAddress : Prop :=
  ∀ s : State,
    Completes .rts s fun t =>
      let slot := fun k : Nat => BitVec.ofNat 16 (0x0100 + (s.sp.toNat + k) % 256)
      t.pc.toNat = (s.readByte (slot 1)).toNat * 256 + (s.readByte (slot 2)).toNat ∧
      t.sp.toNat = (s.sp.toNat + 2) % 256 ∧ ChangesOnly [.sp, .pc] s t

/-- R209, R210: an RTS right after a JSR resumes after the JSR, with SP as it was, for every SP (D3, D4, D5). -/
def Obligations.RtsUndoesJsr : Prop :=
  ∀ (target : Word) (s : State),
    Completes (.jsr target) s fun t => Completes .rts t fun u => PcPast 3 s u ∧ ChangesOnly [.mem, .pc] s u

/-- R211, R213, R267: BRK's frame of three bytes, B set, and PC from the IRQ/BRK vector; I and D are unchanged (D1 to D4,
D6, D7; notes/assumptions/2.md, 3.md, 4.md). -/
def Obligations.BrkPushesItsFrameAndTakesTheVector : Prop :=
  ∀ s : State,
    Completes .brk s fun t =>
      let ret := (s.pc.toNat + 1) % 65536
      let slot := fun k : Nat => BitVec.ofNat 16 (0x0100 + (s.sp.toNat + 256 - k) % 256)
      let p := s.n.toNat * 128 + s.v.toNat * 64 + 16 + s.d.toNat * 8 + s.i.toNat * 4 + s.z.toNat * 2 + s.c.toNat
      (t.readByte (slot 0)).toNat = ret % 256 ∧ (t.readByte (slot 1)).toNat = ret / 256 ∧
      (t.readByte (slot 2)).toNat = p ∧
      (∀ w : Word, w ≠ slot 0 → w ≠ slot 1 → w ≠ slot 2 → t.readByte w = s.readByte w) ∧
      t.sp.toNat = (s.sp.toNat + 253) % 256 ∧ t.b = true ∧
      t.pc.toNat = (s.readByte 0xFFFF).toNat * 256 + (s.readByte 0xFFFE).toNat ∧
      ChangesOnly [.mem, .sp, .pc, .b] s t

/-- R212, R268: RTI pulls the status byte into all seven flags, then PC, high byte first (D1 to D4;
notes/assumptions/2.md, 3.md). -/
def Obligations.RtiRestoresFlagsAndPc : Prop :=
  ∀ s : State,
    Completes .rti s fun t =>
      let slot := fun k : Nat => BitVec.ofNat 16 (0x0100 + (s.sp.toNat + k) % 256)
      let u := s.readByte (slot 1)
      t.n = u.getLsbD 7 ∧ t.v = u.getLsbD 6 ∧ t.b = u.getLsbD 4 ∧ t.d = u.getLsbD 3 ∧ t.i = u.getLsbD 2 ∧
      t.z = u.getLsbD 1 ∧ t.c = u.getLsbD 0 ∧
      t.pc.toNat = (s.readByte (slot 2)).toNat * 256 + (s.readByte (slot 3)).toNat ∧
      t.sp.toNat = (s.sp.toNat + 3) % 256 ∧ ChangesOnly [.sp, .pc, .n, .v, .b, .d, .i, .z, .c] s t

/-- R212, R213: an RTI on BRK's frame, whatever the handler did to the flags, resumes after the BRK with every flag as it
was but B, which is 1, and SP as it was (D3, D4, D6, D7). -/
def Obligations.RtiUndoesBrk : Prop :=
  ∀ (s : State) (p : Byte),
    Completes .brk s fun t => Completes .rti (t.setP p) fun u =>
      PcPast 1 s u ∧ u.b = true ∧ ChangesOnly [.mem, .pc, .b] s u

/-- R204: "The stack never leaves page 0x01": no instruction that uses the stack changes a byte outside it. -/
def Obligations.StackWritesStayInTheStackPage : Prop :=
  ∀ (i : Instr) (s t : State), Part.sp ∈ writtenParts i → exec i s = .next t →
    ∀ w : Word, w.toNat < 0x0100 ∨ 0x01FF < w.toNat → t.readByte w = s.readByte w

/-! ### Branches, jumps, flags, no-ops -/

/-- R114, R220 to R228: each branch goes to its target exactly when its flag says so, and writes nothing but PC (which flag
each mnemonic tests is general knowledge in the spec; notes/assumptions/1.md). -/
def Obligations.BranchesFollowTheirFlag : Prop :=
  ∀ (off : Byte) (s : State),
    BranchesWhen (!s.c) off (.bcc off) s ∧ BranchesWhen s.c off (.bcs off) s ∧
    BranchesWhen s.z off (.beq off) s ∧ BranchesWhen (!s.z) off (.bne off) s ∧
    BranchesWhen s.n off (.bmi off) s ∧ BranchesWhen (!s.n) off (.bpl off) s ∧
    BranchesWhen (!s.v) off (.bvc off) s ∧ BranchesWhen s.v off (.bvs off) s

/-- R235: JMP absolute loads PC with its operand and changes nothing else. -/
def Obligations.JmpAbsoluteLoadsPc : Prop :=
  ∀ (target : Word) (s : State), Completes (.jmpAbs target) s fun t => t.pc = target ∧ ChangesOnly [.pc] s t

/-- R115, R236: JMP indirect loads PC with the word at its operand, the high byte from the next address even across a page
(D11, D16; notes/assumptions/7.md). -/
def Obligations.JmpIndirectLoadsPcFromItsPointer : Prop :=
  ∀ (pointer : Word) (s : State),
    Completes (.jmpInd pointer) s fun t =>
      t.pc.toNat = (s.readByte (BitVec.ofNat 16 ((pointer.toNat + 1) % 65536))).toNat * 256 +
        (s.readByte pointer).toNat ∧
      ChangesOnly [.pc] s t

/-- R240 to R246: each flag instruction writes its one flag. -/
def Obligations.FlagInstructionsWriteOneFlag : Prop :=
  ∀ s : State,
    (Completes .clc s fun t => t.c = false ∧ PcPast 1 s t ∧ ChangesOnly [.pc, .c] s t) ∧
    (Completes .cld s fun t => t.d = false ∧ PcPast 1 s t ∧ ChangesOnly [.pc, .d] s t) ∧
    (Completes .cli s fun t => t.i = false ∧ PcPast 1 s t ∧ ChangesOnly [.pc, .i] s t) ∧
    (Completes .clv s fun t => t.v = false ∧ PcPast 1 s t ∧ ChangesOnly [.pc, .v] s t) ∧
    (Completes .sec s fun t => t.c = true ∧ PcPast 1 s t ∧ ChangesOnly [.pc, .c] s t) ∧
    (Completes .sed s fun t => t.d = true ∧ PcPast 1 s t ∧ ChangesOnly [.pc, .d] s t) ∧
    (Completes .sei s fun t => t.i = true ∧ PcPast 1 s t ∧ ChangesOnly [.pc, .i] s t)

/-- R247, R248: NOP, and every unmapped byte, only moves PC by one (the length of an unmapped opcode is D8,
notes/assumptions/5.md). -/
def Obligations.NopAndUnmappedOnlyMovePc : Prop :=
  ∀ (op : Byte) (s : State),
    (Completes .nop s fun t => PcPast 1 s t ∧ ChangesOnly [.pc] s t) ∧
    (Completes (.unmapped op) s fun t => PcPast 1 s t ∧ ChangesOnly [.pc] s t)

/-! ### Rules of the whole machine -/

/-- R25, R80: an instruction that is no transfer of control leaves PC past its own bytes. -/
def Obligations.OtherInstructionsMovePcPastTheirBytes : Prop :=
  ∀ (i : Instr) (s t : State), isTransfer i = false → exec i s = .next t → PcPast (instrLength i) s t

/-- R21 to R24: an instruction that the "Written by" list of A, X, Y or SP does not name leaves that register as it was. -/
def Obligations.RegistersHaveOnlyTheirWriters : Prop :=
  ∀ (i : Instr) (s t : State), exec i s = .next t →
    ∀ p ∈ [Part.a, .x, .y, .sp], p ∉ writtenParts i → p.Same s t

/-- R28 to R35: an instruction that a flag's "Written by" list does not name leaves that flag as it was. That BRK leaves I
and D is the spec's decision D7 (notes/assumptions/4.md), that a compare leaves V its decision D9
(notes/assumptions/6.md). -/
def Obligations.FlagsHaveOnlyTheirWriters : Prop :=
  ∀ (i : Instr) (s t : State), exec i s = .next t →
    ∀ p ∈ [Part.n, .v, .b, .d, .i, .z, .c], p ∉ writtenParts i → p.Same s t

/-- R54, R58: only stores, read-modify-writes and pushes change memory, and they change no byte but those at the addresses
they store to (`storedAddrs`, at most three; the stack addresses follow D3 and D4, notes/assumptions/3.md). -/
def Obligations.MemoryHasOnlyItsWriters : Prop :=
  ∀ (i : Instr) (s t : State), exec i s = .next t →
    (Part.mem ∉ writtenParts i → ∀ w : Word, t.readByte w = s.readByte w) ∧
    (∀ w : Word, w ∉ storedAddrs s i → t.readByte w = s.readByte w) ∧ (storedAddrs s i).length ≤ 3

/-- R31, R32, R264: D and I are consulted by no instruction but PHP and BRK, which push them: two runs of an instruction
that differ in D and I alone end in states that differ in D and I alone. -/
def Obligations.DecimalAndInterruptFlagsAreInert : Prop :=
  ∀ (i : Instr) (s t : State) (d' i' : Bool), i ≠ .php → i ≠ .brk → exec i s = .next t →
    ∃ t', exec i ((s.setD d').setI i') = .next t' ∧ ChangesOnly [.d, .i] t t'

/-- R66, R301: a store to the byte that the next step fetches is seen by that step, for every one-byte instruction stored
right after the store itself (the spec's decision D20; notes/assumptions/9.md). -/
def Obligations.StoredOpcodeIsFetchedNext : Prop :=
  ∀ (s : State) (i : Instr), decode [s.a] = .ok (i, []) →
    Completes (.sta (.abs (s.pc + 3))) s fun t => step t = exec i t

/-! ### The host -/

/-- R295, R296: what each host write sets, and that it sets nothing else; the status byte drops bit 5 (D2, D24, D26;
notes/assumptions/2.md, 8.md). -/
def Obligations.HostWritesSetTheNamedElement : Prop :=
  ∀ (s : State) (a w : Word) (u : Byte),
    (StoresByte a u s (s.hostWrite (.setByte a u)) ∧ ChangesOnly [.mem] s (s.hostWrite (.setByte a u))) ∧
    (let t := s.hostWrite (.setWord a w)
     (t.readByte a).toNat = w.toNat % 256 ∧ (t.readByte (a + 1)).toNat = w.toNat / 256 ∧ t.getWord a = w ∧
     (∀ q : Word, q ≠ a → q ≠ a + 1 → t.readByte q = s.readByte q) ∧ ChangesOnly [.mem] s t) ∧
    ((s.hostWrite (.setA u)).a = u ∧ ChangesOnly [.a] s (s.hostWrite (.setA u))) ∧
    ((s.hostWrite (.setX u)).x = u ∧ ChangesOnly [.x] s (s.hostWrite (.setX u))) ∧
    ((s.hostWrite (.setY u)).y = u ∧ ChangesOnly [.y] s (s.hostWrite (.setY u))) ∧
    ((s.hostWrite (.setSp u)).sp = u ∧ ChangesOnly [.sp] s (s.hostWrite (.setSp u))) ∧
    ((s.hostWrite (.setPc w)).pc = w ∧ ChangesOnly [.pc] s (s.hostWrite (.setPc w))) ∧
    ((s.hostWrite (.setStatus u)).getStatus = u &&& 0xDF ∧
      ChangesOnly [.n, .v, .b, .d, .i, .z, .c] s (s.hostWrite (.setStatus u)))

/-- R294: `load_program` leaves at each address the last byte that falls on it modulo 65,536, and changes nothing else,
PC included (D24, notes/assumptions/8.md). -/
def Obligations.LoadProgramPlacesItsBytes : Prop :=
  ∀ (s : State) (bytes : List Byte) (addr w : Word),
    let t := s.hostWrite (.loadProgram bytes addr)
    (∀ k u, bytes[k]? = some u → (addr.toNat + k) % 65536 = w.toNat →
      (∀ j, k < j → j < bytes.length → (addr.toNat + j) % 65536 ≠ w.toNat) → t.readByte w = u) ∧
    ((∀ k, k < bytes.length → (addr.toNat + k) % 65536 ≠ w.toNat) → t.readByte w = s.readByte w) ∧
    ChangesOnly [.mem] s t

/-- R298: the transfers to their own address that the rule names end a run before their step, for every bound above 0; a
jump or a taken branch to itself leaves the whole state unchanged (D25, notes/assumptions/13.md). -/
def Obligations.TransfersToThemselvesEndARun : Prop :=
  ∀ (s : State) (maxSteps : Nat), 0 < maxSteps →
    (s.fetchInstr = .jmpAbs s.pc → step s = .next s ∧ runEnd maxSteps s = some (0, s)) ∧
    ((s.fetchInstr, true) ∈ [(Instr.bcc 0xFE, !s.c), (.bcs 0xFE, s.c), (.beq 0xFE, s.z), (.bne 0xFE, !s.z),
        (.bmi 0xFE, s.n), (.bpl 0xFE, !s.n), (.bvc 0xFE, !s.v), (.bvs 0xFE, s.v)] →
      step s = .next s ∧ runEnd maxSteps s = some (0, s)) ∧
    (∀ p, s.fetchInstr = .jmpInd p → s.readWord p = s.pc → runEnd maxSteps s = some (0, s)) ∧
    (s.fetchInstr = .jsr s.pc → runEnd maxSteps s = some (0, s)) ∧
    (s.fetchInstr = .brk → s.readWord Config.irqVector = s.pc → runEnd maxSteps s = some (0, s))

/-! ### A shared operation -/

/-- R36: `SetNZ(v)` sets Z exactly when v is 0 and N to bit 7 of v, and writes nothing else. -/
def Obligations.SetNZWritesItsTwoFlags : Prop :=
  ∀ (s : State) (u : Byte), ReflectsNZ u (s.setNZ u) ∧ ChangesOnly [.n, .z] s (s.setNZ u)
end

