-- ==== Sys2Proof/Laws/State.lean ====
section
/-! SUPPORT. One lemma per field per named update of the state, true by rfl, so that no proof unfolds a record update, and
what reading memory and resolving an operand give after an update that leaves memory alone. -/

namespace Sys2Proof.Machine

variable (s : State)

/-! `setA` -/

@[simp] theorem State.setA_a (u : Byte) : (s.setA u).a = u := rfl
@[simp] theorem State.setA_x (u : Byte) : (s.setA u).x = s.x := rfl
@[simp] theorem State.setA_y (u : Byte) : (s.setA u).y = s.y := rfl
@[simp] theorem State.setA_sp (u : Byte) : (s.setA u).sp = s.sp := rfl
@[simp] theorem State.setA_pc (u : Byte) : (s.setA u).pc = s.pc := rfl
@[simp] theorem State.setA_n (u : Byte) : (s.setA u).n = s.n := rfl
@[simp] theorem State.setA_v (u : Byte) : (s.setA u).v = s.v := rfl
@[simp] theorem State.setA_b (u : Byte) : (s.setA u).b = s.b := rfl
@[simp] theorem State.setA_d (u : Byte) : (s.setA u).d = s.d := rfl
@[simp] theorem State.setA_i (u : Byte) : (s.setA u).i = s.i := rfl
@[simp] theorem State.setA_z (u : Byte) : (s.setA u).z = s.z := rfl
@[simp] theorem State.setA_c (u : Byte) : (s.setA u).c = s.c := rfl
@[simp] theorem State.setA_mem (u : Byte) : (s.setA u).mem = s.mem := rfl
@[simp] theorem State.setA_readByte (u : Byte) (w' : Word) : (s.setA u).readByte w' = s.readByte w' := rfl
@[simp] theorem State.setA_readWord (u : Byte) (w' : Word) : (s.setA u).readWord w' = s.readWord w' := rfl

/-! `setX` -/

@[simp] theorem State.setX_a (u : Byte) : (s.setX u).a = s.a := rfl
@[simp] theorem State.setX_x (u : Byte) : (s.setX u).x = u := rfl
@[simp] theorem State.setX_y (u : Byte) : (s.setX u).y = s.y := rfl
@[simp] theorem State.setX_sp (u : Byte) : (s.setX u).sp = s.sp := rfl
@[simp] theorem State.setX_pc (u : Byte) : (s.setX u).pc = s.pc := rfl
@[simp] theorem State.setX_n (u : Byte) : (s.setX u).n = s.n := rfl
@[simp] theorem State.setX_v (u : Byte) : (s.setX u).v = s.v := rfl
@[simp] theorem State.setX_b (u : Byte) : (s.setX u).b = s.b := rfl
@[simp] theorem State.setX_d (u : Byte) : (s.setX u).d = s.d := rfl
@[simp] theorem State.setX_i (u : Byte) : (s.setX u).i = s.i := rfl
@[simp] theorem State.setX_z (u : Byte) : (s.setX u).z = s.z := rfl
@[simp] theorem State.setX_c (u : Byte) : (s.setX u).c = s.c := rfl
@[simp] theorem State.setX_mem (u : Byte) : (s.setX u).mem = s.mem := rfl
@[simp] theorem State.setX_readByte (u : Byte) (w' : Word) : (s.setX u).readByte w' = s.readByte w' := rfl
@[simp] theorem State.setX_readWord (u : Byte) (w' : Word) : (s.setX u).readWord w' = s.readWord w' := rfl

/-! `setY` -/

@[simp] theorem State.setY_a (u : Byte) : (s.setY u).a = s.a := rfl
@[simp] theorem State.setY_x (u : Byte) : (s.setY u).x = s.x := rfl
@[simp] theorem State.setY_y (u : Byte) : (s.setY u).y = u := rfl
@[simp] theorem State.setY_sp (u : Byte) : (s.setY u).sp = s.sp := rfl
@[simp] theorem State.setY_pc (u : Byte) : (s.setY u).pc = s.pc := rfl
@[simp] theorem State.setY_n (u : Byte) : (s.setY u).n = s.n := rfl
@[simp] theorem State.setY_v (u : Byte) : (s.setY u).v = s.v := rfl
@[simp] theorem State.setY_b (u : Byte) : (s.setY u).b = s.b := rfl
@[simp] theorem State.setY_d (u : Byte) : (s.setY u).d = s.d := rfl
@[simp] theorem State.setY_i (u : Byte) : (s.setY u).i = s.i := rfl
@[simp] theorem State.setY_z (u : Byte) : (s.setY u).z = s.z := rfl
@[simp] theorem State.setY_c (u : Byte) : (s.setY u).c = s.c := rfl
@[simp] theorem State.setY_mem (u : Byte) : (s.setY u).mem = s.mem := rfl
@[simp] theorem State.setY_readByte (u : Byte) (w' : Word) : (s.setY u).readByte w' = s.readByte w' := rfl
@[simp] theorem State.setY_readWord (u : Byte) (w' : Word) : (s.setY u).readWord w' = s.readWord w' := rfl

/-! `setSp` -/

@[simp] theorem State.setSp_a (u : Byte) : (s.setSp u).a = s.a := rfl
@[simp] theorem State.setSp_x (u : Byte) : (s.setSp u).x = s.x := rfl
@[simp] theorem State.setSp_y (u : Byte) : (s.setSp u).y = s.y := rfl
@[simp] theorem State.setSp_sp (u : Byte) : (s.setSp u).sp = u := rfl
@[simp] theorem State.setSp_pc (u : Byte) : (s.setSp u).pc = s.pc := rfl
@[simp] theorem State.setSp_n (u : Byte) : (s.setSp u).n = s.n := rfl
@[simp] theorem State.setSp_v (u : Byte) : (s.setSp u).v = s.v := rfl
@[simp] theorem State.setSp_b (u : Byte) : (s.setSp u).b = s.b := rfl
@[simp] theorem State.setSp_d (u : Byte) : (s.setSp u).d = s.d := rfl
@[simp] theorem State.setSp_i (u : Byte) : (s.setSp u).i = s.i := rfl
@[simp] theorem State.setSp_z (u : Byte) : (s.setSp u).z = s.z := rfl
@[simp] theorem State.setSp_c (u : Byte) : (s.setSp u).c = s.c := rfl
@[simp] theorem State.setSp_mem (u : Byte) : (s.setSp u).mem = s.mem := rfl
@[simp] theorem State.setSp_readByte (u : Byte) (w' : Word) : (s.setSp u).readByte w' = s.readByte w' := rfl
@[simp] theorem State.setSp_readWord (u : Byte) (w' : Word) : (s.setSp u).readWord w' = s.readWord w' := rfl

/-! `setPc` -/

@[simp] theorem State.setPc_a (u : Word) : (s.setPc u).a = s.a := rfl
@[simp] theorem State.setPc_x (u : Word) : (s.setPc u).x = s.x := rfl
@[simp] theorem State.setPc_y (u : Word) : (s.setPc u).y = s.y := rfl
@[simp] theorem State.setPc_sp (u : Word) : (s.setPc u).sp = s.sp := rfl
@[simp] theorem State.setPc_pc (u : Word) : (s.setPc u).pc = u := rfl
@[simp] theorem State.setPc_n (u : Word) : (s.setPc u).n = s.n := rfl
@[simp] theorem State.setPc_v (u : Word) : (s.setPc u).v = s.v := rfl
@[simp] theorem State.setPc_b (u : Word) : (s.setPc u).b = s.b := rfl
@[simp] theorem State.setPc_d (u : Word) : (s.setPc u).d = s.d := rfl
@[simp] theorem State.setPc_i (u : Word) : (s.setPc u).i = s.i := rfl
@[simp] theorem State.setPc_z (u : Word) : (s.setPc u).z = s.z := rfl
@[simp] theorem State.setPc_c (u : Word) : (s.setPc u).c = s.c := rfl
@[simp] theorem State.setPc_mem (u : Word) : (s.setPc u).mem = s.mem := rfl
@[simp] theorem State.setPc_readByte (u : Word) (w' : Word) : (s.setPc u).readByte w' = s.readByte w' := rfl
@[simp] theorem State.setPc_readWord (u : Word) (w' : Word) : (s.setPc u).readWord w' = s.readWord w' := rfl

/-! `advance` -/

@[simp] theorem State.advance_a (k : Nat) : (s.advance k).a = s.a := rfl
@[simp] theorem State.advance_x (k : Nat) : (s.advance k).x = s.x := rfl
@[simp] theorem State.advance_y (k : Nat) : (s.advance k).y = s.y := rfl
@[simp] theorem State.advance_sp (k : Nat) : (s.advance k).sp = s.sp := rfl
@[simp] theorem State.advance_pc (k : Nat) : (s.advance k).pc = s.pc + BitVec.ofNat 16 k := rfl
@[simp] theorem State.advance_n (k : Nat) : (s.advance k).n = s.n := rfl
@[simp] theorem State.advance_v (k : Nat) : (s.advance k).v = s.v := rfl
@[simp] theorem State.advance_b (k : Nat) : (s.advance k).b = s.b := rfl
@[simp] theorem State.advance_d (k : Nat) : (s.advance k).d = s.d := rfl
@[simp] theorem State.advance_i (k : Nat) : (s.advance k).i = s.i := rfl
@[simp] theorem State.advance_z (k : Nat) : (s.advance k).z = s.z := rfl
@[simp] theorem State.advance_c (k : Nat) : (s.advance k).c = s.c := rfl
@[simp] theorem State.advance_mem (k : Nat) : (s.advance k).mem = s.mem := rfl
@[simp] theorem State.advance_readByte (k : Nat) (w' : Word) : (s.advance k).readByte w' = s.readByte w' := rfl
@[simp] theorem State.advance_readWord (k : Nat) (w' : Word) : (s.advance k).readWord w' = s.readWord w' := rfl

/-! `setN` -/

@[simp] theorem State.setN_a (f : Bool) : (s.setN f).a = s.a := rfl
@[simp] theorem State.setN_x (f : Bool) : (s.setN f).x = s.x := rfl
@[simp] theorem State.setN_y (f : Bool) : (s.setN f).y = s.y := rfl
@[simp] theorem State.setN_sp (f : Bool) : (s.setN f).sp = s.sp := rfl
@[simp] theorem State.setN_pc (f : Bool) : (s.setN f).pc = s.pc := rfl
@[simp] theorem State.setN_n (f : Bool) : (s.setN f).n = f := rfl
@[simp] theorem State.setN_v (f : Bool) : (s.setN f).v = s.v := rfl
@[simp] theorem State.setN_b (f : Bool) : (s.setN f).b = s.b := rfl
@[simp] theorem State.setN_d (f : Bool) : (s.setN f).d = s.d := rfl
@[simp] theorem State.setN_i (f : Bool) : (s.setN f).i = s.i := rfl
@[simp] theorem State.setN_z (f : Bool) : (s.setN f).z = s.z := rfl
@[simp] theorem State.setN_c (f : Bool) : (s.setN f).c = s.c := rfl
@[simp] theorem State.setN_mem (f : Bool) : (s.setN f).mem = s.mem := rfl
@[simp] theorem State.setN_readByte (f : Bool) (w' : Word) : (s.setN f).readByte w' = s.readByte w' := rfl
@[simp] theorem State.setN_readWord (f : Bool) (w' : Word) : (s.setN f).readWord w' = s.readWord w' := rfl

/-! `setV` -/

@[simp] theorem State.setV_a (f : Bool) : (s.setV f).a = s.a := rfl
@[simp] theorem State.setV_x (f : Bool) : (s.setV f).x = s.x := rfl
@[simp] theorem State.setV_y (f : Bool) : (s.setV f).y = s.y := rfl
@[simp] theorem State.setV_sp (f : Bool) : (s.setV f).sp = s.sp := rfl
@[simp] theorem State.setV_pc (f : Bool) : (s.setV f).pc = s.pc := rfl
@[simp] theorem State.setV_n (f : Bool) : (s.setV f).n = s.n := rfl
@[simp] theorem State.setV_v (f : Bool) : (s.setV f).v = f := rfl
@[simp] theorem State.setV_b (f : Bool) : (s.setV f).b = s.b := rfl
@[simp] theorem State.setV_d (f : Bool) : (s.setV f).d = s.d := rfl
@[simp] theorem State.setV_i (f : Bool) : (s.setV f).i = s.i := rfl
@[simp] theorem State.setV_z (f : Bool) : (s.setV f).z = s.z := rfl
@[simp] theorem State.setV_c (f : Bool) : (s.setV f).c = s.c := rfl
@[simp] theorem State.setV_mem (f : Bool) : (s.setV f).mem = s.mem := rfl
@[simp] theorem State.setV_readByte (f : Bool) (w' : Word) : (s.setV f).readByte w' = s.readByte w' := rfl
@[simp] theorem State.setV_readWord (f : Bool) (w' : Word) : (s.setV f).readWord w' = s.readWord w' := rfl

/-! `setB` -/

@[simp] theorem State.setB_a (f : Bool) : (s.setB f).a = s.a := rfl
@[simp] theorem State.setB_x (f : Bool) : (s.setB f).x = s.x := rfl
@[simp] theorem State.setB_y (f : Bool) : (s.setB f).y = s.y := rfl
@[simp] theorem State.setB_sp (f : Bool) : (s.setB f).sp = s.sp := rfl
@[simp] theorem State.setB_pc (f : Bool) : (s.setB f).pc = s.pc := rfl
@[simp] theorem State.setB_n (f : Bool) : (s.setB f).n = s.n := rfl
@[simp] theorem State.setB_v (f : Bool) : (s.setB f).v = s.v := rfl
@[simp] theorem State.setB_b (f : Bool) : (s.setB f).b = f := rfl
@[simp] theorem State.setB_d (f : Bool) : (s.setB f).d = s.d := rfl
@[simp] theorem State.setB_i (f : Bool) : (s.setB f).i = s.i := rfl
@[simp] theorem State.setB_z (f : Bool) : (s.setB f).z = s.z := rfl
@[simp] theorem State.setB_c (f : Bool) : (s.setB f).c = s.c := rfl
@[simp] theorem State.setB_mem (f : Bool) : (s.setB f).mem = s.mem := rfl
@[simp] theorem State.setB_readByte (f : Bool) (w' : Word) : (s.setB f).readByte w' = s.readByte w' := rfl
@[simp] theorem State.setB_readWord (f : Bool) (w' : Word) : (s.setB f).readWord w' = s.readWord w' := rfl

/-! `setD` -/

@[simp] theorem State.setD_a (f : Bool) : (s.setD f).a = s.a := rfl
@[simp] theorem State.setD_x (f : Bool) : (s.setD f).x = s.x := rfl
@[simp] theorem State.setD_y (f : Bool) : (s.setD f).y = s.y := rfl
@[simp] theorem State.setD_sp (f : Bool) : (s.setD f).sp = s.sp := rfl
@[simp] theorem State.setD_pc (f : Bool) : (s.setD f).pc = s.pc := rfl
@[simp] theorem State.setD_n (f : Bool) : (s.setD f).n = s.n := rfl
@[simp] theorem State.setD_v (f : Bool) : (s.setD f).v = s.v := rfl
@[simp] theorem State.setD_b (f : Bool) : (s.setD f).b = s.b := rfl
@[simp] theorem State.setD_d (f : Bool) : (s.setD f).d = f := rfl
@[simp] theorem State.setD_i (f : Bool) : (s.setD f).i = s.i := rfl
@[simp] theorem State.setD_z (f : Bool) : (s.setD f).z = s.z := rfl
@[simp] theorem State.setD_c (f : Bool) : (s.setD f).c = s.c := rfl
@[simp] theorem State.setD_mem (f : Bool) : (s.setD f).mem = s.mem := rfl
@[simp] theorem State.setD_readByte (f : Bool) (w' : Word) : (s.setD f).readByte w' = s.readByte w' := rfl
@[simp] theorem State.setD_readWord (f : Bool) (w' : Word) : (s.setD f).readWord w' = s.readWord w' := rfl

/-! `setI` -/

@[simp] theorem State.setI_a (f : Bool) : (s.setI f).a = s.a := rfl
@[simp] theorem State.setI_x (f : Bool) : (s.setI f).x = s.x := rfl
@[simp] theorem State.setI_y (f : Bool) : (s.setI f).y = s.y := rfl
@[simp] theorem State.setI_sp (f : Bool) : (s.setI f).sp = s.sp := rfl
@[simp] theorem State.setI_pc (f : Bool) : (s.setI f).pc = s.pc := rfl
@[simp] theorem State.setI_n (f : Bool) : (s.setI f).n = s.n := rfl
@[simp] theorem State.setI_v (f : Bool) : (s.setI f).v = s.v := rfl
@[simp] theorem State.setI_b (f : Bool) : (s.setI f).b = s.b := rfl
@[simp] theorem State.setI_d (f : Bool) : (s.setI f).d = s.d := rfl
@[simp] theorem State.setI_i (f : Bool) : (s.setI f).i = f := rfl
@[simp] theorem State.setI_z (f : Bool) : (s.setI f).z = s.z := rfl
@[simp] theorem State.setI_c (f : Bool) : (s.setI f).c = s.c := rfl
@[simp] theorem State.setI_mem (f : Bool) : (s.setI f).mem = s.mem := rfl
@[simp] theorem State.setI_readByte (f : Bool) (w' : Word) : (s.setI f).readByte w' = s.readByte w' := rfl
@[simp] theorem State.setI_readWord (f : Bool) (w' : Word) : (s.setI f).readWord w' = s.readWord w' := rfl

/-! `setZ` -/

@[simp] theorem State.setZ_a (f : Bool) : (s.setZ f).a = s.a := rfl
@[simp] theorem State.setZ_x (f : Bool) : (s.setZ f).x = s.x := rfl
@[simp] theorem State.setZ_y (f : Bool) : (s.setZ f).y = s.y := rfl
@[simp] theorem State.setZ_sp (f : Bool) : (s.setZ f).sp = s.sp := rfl
@[simp] theorem State.setZ_pc (f : Bool) : (s.setZ f).pc = s.pc := rfl
@[simp] theorem State.setZ_n (f : Bool) : (s.setZ f).n = s.n := rfl
@[simp] theorem State.setZ_v (f : Bool) : (s.setZ f).v = s.v := rfl
@[simp] theorem State.setZ_b (f : Bool) : (s.setZ f).b = s.b := rfl
@[simp] theorem State.setZ_d (f : Bool) : (s.setZ f).d = s.d := rfl
@[simp] theorem State.setZ_i (f : Bool) : (s.setZ f).i = s.i := rfl
@[simp] theorem State.setZ_z (f : Bool) : (s.setZ f).z = f := rfl
@[simp] theorem State.setZ_c (f : Bool) : (s.setZ f).c = s.c := rfl
@[simp] theorem State.setZ_mem (f : Bool) : (s.setZ f).mem = s.mem := rfl
@[simp] theorem State.setZ_readByte (f : Bool) (w' : Word) : (s.setZ f).readByte w' = s.readByte w' := rfl
@[simp] theorem State.setZ_readWord (f : Bool) (w' : Word) : (s.setZ f).readWord w' = s.readWord w' := rfl

/-! `setC` -/

@[simp] theorem State.setC_a (f : Bool) : (s.setC f).a = s.a := rfl
@[simp] theorem State.setC_x (f : Bool) : (s.setC f).x = s.x := rfl
@[simp] theorem State.setC_y (f : Bool) : (s.setC f).y = s.y := rfl
@[simp] theorem State.setC_sp (f : Bool) : (s.setC f).sp = s.sp := rfl
@[simp] theorem State.setC_pc (f : Bool) : (s.setC f).pc = s.pc := rfl
@[simp] theorem State.setC_n (f : Bool) : (s.setC f).n = s.n := rfl
@[simp] theorem State.setC_v (f : Bool) : (s.setC f).v = s.v := rfl
@[simp] theorem State.setC_b (f : Bool) : (s.setC f).b = s.b := rfl
@[simp] theorem State.setC_d (f : Bool) : (s.setC f).d = s.d := rfl
@[simp] theorem State.setC_i (f : Bool) : (s.setC f).i = s.i := rfl
@[simp] theorem State.setC_z (f : Bool) : (s.setC f).z = s.z := rfl
@[simp] theorem State.setC_c (f : Bool) : (s.setC f).c = f := rfl
@[simp] theorem State.setC_mem (f : Bool) : (s.setC f).mem = s.mem := rfl
@[simp] theorem State.setC_readByte (f : Bool) (w' : Word) : (s.setC f).readByte w' = s.readByte w' := rfl
@[simp] theorem State.setC_readWord (f : Bool) (w' : Word) : (s.setC f).readWord w' = s.readWord w' := rfl

/-! `setNZ` -/

@[simp] theorem State.setNZ_a (u : Byte) : (s.setNZ u).a = s.a := rfl
@[simp] theorem State.setNZ_x (u : Byte) : (s.setNZ u).x = s.x := rfl
@[simp] theorem State.setNZ_y (u : Byte) : (s.setNZ u).y = s.y := rfl
@[simp] theorem State.setNZ_sp (u : Byte) : (s.setNZ u).sp = s.sp := rfl
@[simp] theorem State.setNZ_pc (u : Byte) : (s.setNZ u).pc = s.pc := rfl
@[simp] theorem State.setNZ_n (u : Byte) : (s.setNZ u).n = u.msb := rfl
@[simp] theorem State.setNZ_v (u : Byte) : (s.setNZ u).v = s.v := rfl
@[simp] theorem State.setNZ_b (u : Byte) : (s.setNZ u).b = s.b := rfl
@[simp] theorem State.setNZ_d (u : Byte) : (s.setNZ u).d = s.d := rfl
@[simp] theorem State.setNZ_i (u : Byte) : (s.setNZ u).i = s.i := rfl
@[simp] theorem State.setNZ_z (u : Byte) : (s.setNZ u).z = (u == 0) := rfl
@[simp] theorem State.setNZ_c (u : Byte) : (s.setNZ u).c = s.c := rfl
@[simp] theorem State.setNZ_mem (u : Byte) : (s.setNZ u).mem = s.mem := rfl
@[simp] theorem State.setNZ_readByte (u : Byte) (w' : Word) : (s.setNZ u).readByte w' = s.readByte w' := rfl
@[simp] theorem State.setNZ_readWord (u : Byte) (w' : Word) : (s.setNZ u).readWord w' = s.readWord w' := rfl

/-! `setP` -/

@[simp] theorem State.setP_a (u : Byte) : (s.setP u).a = s.a := rfl
@[simp] theorem State.setP_x (u : Byte) : (s.setP u).x = s.x := rfl
@[simp] theorem State.setP_y (u : Byte) : (s.setP u).y = s.y := rfl
@[simp] theorem State.setP_sp (u : Byte) : (s.setP u).sp = s.sp := rfl
@[simp] theorem State.setP_pc (u : Byte) : (s.setP u).pc = s.pc := rfl
@[simp] theorem State.setP_n (u : Byte) : (s.setP u).n = u.getLsbD 7 := rfl
@[simp] theorem State.setP_v (u : Byte) : (s.setP u).v = u.getLsbD 6 := rfl
@[simp] theorem State.setP_b (u : Byte) : (s.setP u).b = u.getLsbD 4 := rfl
@[simp] theorem State.setP_d (u : Byte) : (s.setP u).d = u.getLsbD 3 := rfl
@[simp] theorem State.setP_i (u : Byte) : (s.setP u).i = u.getLsbD 2 := rfl
@[simp] theorem State.setP_z (u : Byte) : (s.setP u).z = u.getLsbD 1 := rfl
@[simp] theorem State.setP_c (u : Byte) : (s.setP u).c = u.getLsbD 0 := rfl
@[simp] theorem State.setP_mem (u : Byte) : (s.setP u).mem = s.mem := rfl
@[simp] theorem State.setP_readByte (u : Byte) (w' : Word) : (s.setP u).readByte w' = s.readByte w' := rfl
@[simp] theorem State.setP_readWord (u : Byte) (w' : Word) : (s.setP u).readWord w' = s.readWord w' := rfl

/-! `compare` -/

@[simp] theorem State.compare_a (r u : Byte) : (s.compare r u).a = s.a := rfl
@[simp] theorem State.compare_x (r u : Byte) : (s.compare r u).x = s.x := rfl
@[simp] theorem State.compare_y (r u : Byte) : (s.compare r u).y = s.y := rfl
@[simp] theorem State.compare_sp (r u : Byte) : (s.compare r u).sp = s.sp := rfl
@[simp] theorem State.compare_pc (r u : Byte) : (s.compare r u).pc = s.pc := rfl
@[simp] theorem State.compare_n (r u : Byte) : (s.compare r u).n = (r - u).msb := rfl
@[simp] theorem State.compare_v (r u : Byte) : (s.compare r u).v = s.v := rfl
@[simp] theorem State.compare_b (r u : Byte) : (s.compare r u).b = s.b := rfl
@[simp] theorem State.compare_d (r u : Byte) : (s.compare r u).d = s.d := rfl
@[simp] theorem State.compare_i (r u : Byte) : (s.compare r u).i = s.i := rfl
@[simp] theorem State.compare_z (r u : Byte) : (s.compare r u).z = (r == u) := rfl
@[simp] theorem State.compare_c (r u : Byte) : (s.compare r u).c = decide (u.toNat ≤ r.toNat) := rfl
@[simp] theorem State.compare_mem (r u : Byte) : (s.compare r u).mem = s.mem := rfl
@[simp] theorem State.compare_readByte (r u : Byte) (w' : Word) : (s.compare r u).readByte w' = s.readByte w' := rfl
@[simp] theorem State.compare_readWord (r u : Byte) (w' : Word) : (s.compare r u).readWord w' = s.readWord w' := rfl

/-! `writeByte` -/

@[simp] theorem State.writeByte_a (w : Word) (u : Byte) : (s.writeByte w u).a = s.a := rfl
@[simp] theorem State.writeByte_x (w : Word) (u : Byte) : (s.writeByte w u).x = s.x := rfl
@[simp] theorem State.writeByte_y (w : Word) (u : Byte) : (s.writeByte w u).y = s.y := rfl
@[simp] theorem State.writeByte_sp (w : Word) (u : Byte) : (s.writeByte w u).sp = s.sp := rfl
@[simp] theorem State.writeByte_pc (w : Word) (u : Byte) : (s.writeByte w u).pc = s.pc := rfl
@[simp] theorem State.writeByte_n (w : Word) (u : Byte) : (s.writeByte w u).n = s.n := rfl
@[simp] theorem State.writeByte_v (w : Word) (u : Byte) : (s.writeByte w u).v = s.v := rfl
@[simp] theorem State.writeByte_b (w : Word) (u : Byte) : (s.writeByte w u).b = s.b := rfl
@[simp] theorem State.writeByte_d (w : Word) (u : Byte) : (s.writeByte w u).d = s.d := rfl
@[simp] theorem State.writeByte_i (w : Word) (u : Byte) : (s.writeByte w u).i = s.i := rfl
@[simp] theorem State.writeByte_z (w : Word) (u : Byte) : (s.writeByte w u).z = s.z := rfl
@[simp] theorem State.writeByte_c (w : Word) (u : Byte) : (s.writeByte w u).c = s.c := rfl
@[simp] theorem State.writeByte_mem (w : Word) (u : Byte) : (s.writeByte w u).mem = Memory.write s.mem w.toNat u := rfl

/-! `push` -/

@[simp] theorem State.push_a (u : Byte) : (s.push u).a = s.a := rfl
@[simp] theorem State.push_x (u : Byte) : (s.push u).x = s.x := rfl
@[simp] theorem State.push_y (u : Byte) : (s.push u).y = s.y := rfl
@[simp] theorem State.push_sp (u : Byte) : (s.push u).sp = s.sp - 1 := rfl
@[simp] theorem State.push_pc (u : Byte) : (s.push u).pc = s.pc := rfl
@[simp] theorem State.push_n (u : Byte) : (s.push u).n = s.n := rfl
@[simp] theorem State.push_v (u : Byte) : (s.push u).v = s.v := rfl
@[simp] theorem State.push_b (u : Byte) : (s.push u).b = s.b := rfl
@[simp] theorem State.push_d (u : Byte) : (s.push u).d = s.d := rfl
@[simp] theorem State.push_i (u : Byte) : (s.push u).i = s.i := rfl
@[simp] theorem State.push_z (u : Byte) : (s.push u).z = s.z := rfl
@[simp] theorem State.push_c (u : Byte) : (s.push u).c = s.c := rfl
@[simp] theorem State.push_mem (u : Byte) : (s.push u).mem = Memory.write s.mem (stackAddr s.sp).toNat u := rfl

/-! `pushWord` -/

@[simp] theorem State.pushWord_a (w : Word) : (s.pushWord w).a = s.a := rfl
@[simp] theorem State.pushWord_x (w : Word) : (s.pushWord w).x = s.x := rfl
@[simp] theorem State.pushWord_y (w : Word) : (s.pushWord w).y = s.y := rfl
@[simp] theorem State.pushWord_sp (w : Word) : (s.pushWord w).sp = s.sp - 1 - 1 := rfl
@[simp] theorem State.pushWord_pc (w : Word) : (s.pushWord w).pc = s.pc := rfl
@[simp] theorem State.pushWord_n (w : Word) : (s.pushWord w).n = s.n := rfl
@[simp] theorem State.pushWord_v (w : Word) : (s.pushWord w).v = s.v := rfl
@[simp] theorem State.pushWord_b (w : Word) : (s.pushWord w).b = s.b := rfl
@[simp] theorem State.pushWord_d (w : Word) : (s.pushWord w).d = s.d := rfl
@[simp] theorem State.pushWord_i (w : Word) : (s.pushWord w).i = s.i := rfl
@[simp] theorem State.pushWord_z (w : Word) : (s.pushWord w).z = s.z := rfl
@[simp] theorem State.pushWord_c (w : Word) : (s.pushWord w).c = s.c := rfl
@[simp] theorem State.pushWord_mem (w : Word) : (s.pushWord w).mem = Memory.write (Memory.write s.mem (stackAddr s.sp).toNat (lowByte w)) (stackAddr (s.sp - 1)).toNat (highByte w) := rfl

/-! The pulls: the byte or word, and the state with SP moved. -/

@[simp] theorem State.pop_fst : s.pop.1 = s.readByte (stackAddr (s.sp + 1)) := rfl
@[simp] theorem State.pop_snd : s.pop.2 = s.setSp (s.sp + 1) := rfl
@[simp] theorem State.popWord_fst :
    s.popWord.1 = hiLo (s.readByte (stackAddr (s.sp + 1))) (s.readByte (stackAddr (s.sp + 1 + 1))) := rfl
@[simp] theorem State.popWord_snd : s.popWord.2 = (s.setSp (s.sp + 1)).setSp (s.sp + 1 + 1) := rfl

/-! A resolver does not depend on PC (R104). -/

@[simp] theorem State.advance_effAddr (k : Nat) (m : MemMode) : (s.advance k).effAddr m = s.effAddr m := by
  cases m <;> rfl

@[simp] theorem State.advance_operand (k : Nat) (o : Operand) : (s.advance k).operand o = s.operand o := by
  cases o with
  | imm nn => rfl
  | mem m => cases m <;> rfl

@[simp] theorem State.advance_p (k : Nat) : (s.advance k).p = s.p := rfl

end Sys2Proof.Machine
end

