-- ==== Sys2Proof/Laws/Memory.lean ====
section
/-! SUPPORT. Memory: what a read sees after each operation (for every list, canonical or not), and that every operation
keeps the canonical form (`Memory.wf`). -/

namespace Sys2Proof.Machine

/-! ### Reads -/

@[simp] theorem Memory.read_nil (a : Nat) : Memory.read [] a = 0 := rfl

theorem Memory.read_cons (k : Nat) (w : Byte) (m : Memory) (a : Nat) :
    Memory.read ((k, w) :: m) a = if k = a then w else Memory.read m a := rfl

theorem Memory.read_erase (m : Memory) (a b : Nat) :
    Memory.read (Memory.erase m a) b = if b = a then 0 else Memory.read m b := by
  induction m with
  | nil => simp [Memory.erase]
  | cons c rest ih =>
    obtain ⟨k, w⟩ := c
    unfold Memory.erase at ih ⊢
    by_cases hka : k = a
    · subst hka
      rw [List.filter_cons_of_neg (by simp), ih, Memory.read_cons]
      by_cases hbk : b = k
      · simp [hbk]
      · rw [if_neg hbk, if_neg hbk, if_neg (fun h => hbk h.symm)]
    · rw [List.filter_cons_of_pos (by simp [hka]), Memory.read_cons, Memory.read_cons, ih]
      by_cases hkb : k = b
      · subst hkb
        rw [if_pos rfl, if_pos rfl, if_neg hka]
      · rw [if_neg hkb, if_neg hkb]

/-- Inserting a cell where the address is not listed yet. -/
theorem Memory.read_insert (m : Memory) (a b : Nat) (w : Byte) (h : ∀ c ∈ m, c.1 ≠ a) :
    Memory.read (Memory.insert m a w) b = if b = a then w else Memory.read m b := by
  induction m with
  | nil => simp [Memory.insert, Memory.read_cons, eq_comm]
  | cons c rest ih =>
    obtain ⟨k, u⟩ := c
    have hk : k ≠ a := h (k, u) (by simp)
    have hrest : ∀ c ∈ rest, c.1 ≠ a := fun c hc => h c (by simp [hc])
    unfold Memory.insert
    split
    · rw [Memory.read_cons]
      by_cases hba : b = a
      · simp [hba]
      · rw [if_neg hba, if_neg (fun e => hba e.symm)]
    · rw [Memory.read_cons, Memory.read_cons, ih hrest]
      by_cases hkb : k = b
      · subst hkb
        rw [if_pos rfl, if_pos rfl, if_neg hk]
      · rw [if_neg hkb, if_neg hkb]

theorem Memory.mem_erase_ne {m : Memory} {a : Nat} : ∀ c ∈ Memory.erase m a, c.1 ≠ a := by
  intro c hc
  simpa [Memory.erase] using (List.mem_filter.mp hc).2

/-- A read after a write: the byte written at that address, and what was there everywhere else (R52). -/
theorem Memory.read_write (m : Memory) (a b : Nat) (w : Byte) :
    Memory.read (Memory.write m a w) b = if b = a then w else Memory.read m b := by
  unfold Memory.write
  split
  · next hw => rw [Memory.read_erase, hw]
  · rw [Memory.read_insert _ _ _ _ Memory.mem_erase_ne, Memory.read_erase]
    by_cases hba : b = a
    · simp [hba]
    · simp [hba]

/-- The state's read after a write (R52). -/
theorem State.readByte_writeByte (s : State) (a b : Word) (u : Byte) :
    (s.writeByte a u).readByte b = if b = a then u else s.readByte b := by
  simp only [State.readByte, State.writeByte_mem, Memory.read_write, BitVec.toNat_inj]

@[simp] theorem State.readByte_writeByte_same (s : State) (a : Word) (u : Byte) :
    (s.writeByte a u).readByte a = u := by simp [State.readByte_writeByte]

theorem State.readByte_writeByte_ne (s : State) {a b : Word} (u : Byte) (h : b ≠ a) :
    (s.writeByte a u).readByte b = s.readByte b := by simp [State.readByte_writeByte, h]

/-! ### The canonical form -/

theorem Memory.wfFrom_nil (lo : Nat) : Memory.wfFrom lo [] = true := rfl

theorem Memory.wfFrom_cons (lo k : Nat) (w : Byte) (m : Memory) :
    Memory.wfFrom lo ((k, w) :: m) = true ↔
      lo ≤ k ∧ k < 65536 ∧ w ≠ 0 ∧ Memory.wfFrom (k + 1) m = true := by
  simp only [Memory.wfFrom, Bool.and_eq_true, decide_eq_true_eq, bne_iff_ne, and_assoc]
  exact Iff.rfl

theorem Memory.wfFrom_mono {lo lo' : Nat} {m : Memory} (h : lo' ≤ lo) (hm : Memory.wfFrom lo m = true) :
    Memory.wfFrom lo' m = true := by
  cases m with
  | nil => rfl
  | cons c rest =>
    obtain ⟨k, w⟩ := c
    rw [Memory.wfFrom_cons] at hm ⊢
    exact ⟨by omega, hm.2⟩

theorem Memory.wfFrom_erase {lo : Nat} {m : Memory} (a : Nat) (hm : Memory.wfFrom lo m = true) :
    Memory.wfFrom lo (Memory.erase m a) = true := by
  induction m generalizing lo with
  | nil => rfl
  | cons c rest ih =>
    obtain ⟨k, w⟩ := c
    rw [Memory.wfFrom_cons] at hm
    unfold Memory.erase at ih ⊢
    by_cases hka : k = a
    · rw [List.filter_cons_of_neg (by simp [hka])]
      exact Memory.wfFrom_mono (by omega) (ih hm.2.2.2)
    · rw [List.filter_cons_of_pos (by simp [hka]), Memory.wfFrom_cons]
      exact ⟨hm.1, hm.2.1, hm.2.2.1, ih hm.2.2.2⟩

theorem Memory.wfFrom_insert {lo : Nat} {m : Memory} {a : Nat} {w : Byte} (hm : Memory.wfFrom lo m = true)
    (hlo : lo ≤ a) (ha : a < 65536) (hw : w ≠ 0) (hne : ∀ c ∈ m, c.1 ≠ a) :
    Memory.wfFrom lo (Memory.insert m a w) = true := by
  induction m generalizing lo with
  | nil => rw [Memory.insert, Memory.wfFrom_cons]; exact ⟨hlo, ha, hw, rfl⟩
  | cons c rest ih =>
    obtain ⟨k, u⟩ := c
    rw [Memory.wfFrom_cons] at hm
    have hk : k ≠ a := hne (k, u) (by simp)
    unfold Memory.insert
    split
    · next hak =>
      rw [Memory.wfFrom_cons, Memory.wfFrom_cons]
      exact ⟨hlo, ha, hw, by omega, hm.2⟩
    · next hak =>
      rw [Memory.wfFrom_cons]
      exact ⟨hm.1, hm.2.1, hm.2.2.1, ih hm.2.2.2 (by omega) fun c hc => hne c (by simp [hc])⟩

theorem Memory.wf_erase {m : Memory} (a : Nat) (hm : Memory.wf m = true) : Memory.wf (Memory.erase m a) = true :=
  Memory.wfFrom_erase a hm

/-- A write to an address of the space keeps the canonical form. -/
theorem Memory.wf_write {m : Memory} {a : Nat} (w : Byte) (hm : Memory.wf m = true) (ha : a < 65536) :
    Memory.wf (Memory.write m a w) = true := by
  unfold Memory.write
  split
  · exact Memory.wf_erase a hm
  · next hw => exact Memory.wfFrom_insert (Memory.wf_erase a hm) (Nat.zero_le _) ha hw Memory.mem_erase_ne

theorem State.writeByte_wf {s : State} (a : Word) (u : Byte) (h : Memory.wf s.mem = true) :
    Memory.wf (s.writeByte a u).mem = true := Memory.wf_write u h a.isLt

theorem State.push_wf {s : State} (u : Byte) (h : Memory.wf s.mem = true) : Memory.wf (s.push u).mem = true :=
  Memory.wf_write u h (BitVec.isLt _)

theorem State.pushWord_wf {s : State} (w : Word) (h : Memory.wf s.mem = true) :
    Memory.wf (s.pushWord w).mem = true := State.push_wf _ (State.push_wf _ h)

theorem State.writeBytes_wf {s : State} (a : Word) (bytes : List Byte) (h : Memory.wf s.mem = true) :
    Memory.wf (s.writeBytes a bytes).mem = true := by
  induction bytes generalizing s a with
  | nil => exact h
  | cons u rest ih => exact ih (a + 1) (State.writeByte_wf a u h)

end Sys2Proof.Machine
end

