-- ==== Sys2Proof/Laws/Ops.lean ====
section
/-! SUPPORT. What each shared operation does, said once: bytes and words, the adder, the stack addresses, the pushes and
pulls, trap entry and return, and the shared ends of the arithmetic, shift and branch meanings. -/

namespace Sys2Proof.Machine

/-! ### Bytes and words -/

theorem hiLo_toNat (hi lo : Byte) : (hiLo hi lo).toNat = hi.toNat * 256 + lo.toNat := by
  have := lo.isLt
  simp only [hiLo, BitVec.toNat_append]
  rw [Nat.shiftLeft_eq, Nat.mul_comm, ← Nat.two_pow_add_eq_or_of_lt lo.isLt]

theorem lowByte_toNat (w : Word) : (lowByte w).toNat = w.toNat % 256 := by
  simp [lowByte, BitVec.extractLsb'_toNat]

theorem highByte_toNat (w : Word) : (highByte w).toNat = w.toNat / 256 := by
  have := w.isLt
  simp only [highByte, BitVec.extractLsb'_toNat, Nat.shiftRight_eq_div_pow]
  omega

@[simp] theorem hiLo_high_low (w : Word) : hiLo (highByte w) (lowByte w) = w := by
  apply BitVec.eq_of_toNat_eq
  rw [hiLo_toNat, highByte_toNat, lowByte_toNat]
  omega

@[simp] theorem lowByte_hiLo (hi lo : Byte) : lowByte (hiLo hi lo) = lo := by
  apply BitVec.eq_of_toNat_eq
  have := lo.isLt
  rw [lowByte_toNat, hiLo_toNat]
  omega

@[simp] theorem highByte_hiLo (hi lo : Byte) : highByte (hiLo hi lo) = hi := by
  apply BitVec.eq_of_toNat_eq
  have := lo.isLt
  rw [highByte_toNat, hiLo_toNat]
  omega

@[simp] theorem zext16_toNat (u : Byte) : (zext16 u).toNat = u.toNat := by
  have := u.isLt
  simp only [zext16, BitVec.toNat_setWidth]
  omega

/-! ### The adder -/

theorem add8_result (a b : Byte) (cin : Bool) :
    (add8 a b cin).1.toNat = (a.toNat + b.toNat + cin.toNat) % 256 := by simp [add8]

theorem add8_carry (a b : Byte) (cin : Bool) :
    (add8 a b cin).2.1 = decide (255 < a.toNat + b.toNat + cin.toNat) := rfl

theorem add8_overflow (a b : Byte) (cin : Bool) :
    (add8 a b cin).2.2 = (a.msb == b.msb && (add8 a b cin).1.msb != a.msb) := rfl

/-! ### Stack addresses -/

theorem stackAddr_toNat (sp : Byte) : (stackAddr sp).toNat = 256 + sp.toNat := by
  have := sp.isLt
  simp only [stackAddr, Config.stackBase, BitVec.toNat_add, zext16_toNat]
  rw [show (0x0100#16).toNat = 256 from rfl]
  omega

theorem stackAddr_inj {p q : Byte} : stackAddr p = stackAddr q ↔ p = q := by
  constructor
  · intro h
    apply BitVec.eq_of_toNat_eq
    have := congrArg BitVec.toNat h
    rw [stackAddr_toNat, stackAddr_toNat] at this
    omega
  · exact congrArg stackAddr

/-- No vector lies in the stack page, so a push never changes one. -/
theorem stackAddr_ne_of_high {w : Word} (h : 512 ≤ w.toNat) (p : Byte) : w ≠ stackAddr p := by
  intro e
  have := p.isLt
  rw [e, stackAddr_toNat] at h
  omega

/-! ### Pushes and pulls -/

theorem State.readByte_push (s : State) (u : Byte) (w : Word) :
    (s.push u).readByte w = if w = stackAddr s.sp then u else s.readByte w :=
  State.readByte_writeByte s _ _ _

/-- `Pop()` after `Push(v)` gives `v` (R201). -/
theorem State.pop_push_fst (s : State) (u : Byte) : (s.push u).pop.1 = u := by
  simp [State.readByte_push, BitVec.sub_add_cancel]

/-- `Pop()` after `Push(v)` restores SP (R201). -/
theorem State.pop_push_sp (s : State) (u : Byte) : (s.push u).pop.2.sp = s.sp := by
  simp [BitVec.sub_add_cancel]

theorem State.readByte_pushWord (s : State) (u w : Word) :
    (s.pushWord u).readByte w =
      if w = stackAddr (s.sp - 1) then highByte u else if w = stackAddr s.sp then lowByte u else s.readByte w := by
  rw [State.pushWord, State.readByte_push, State.readByte_push, State.push_sp]

/-- A push changes no byte outside the stack page. -/
theorem State.readByte_push_high (s : State) (u : Byte) {w : Word} (h : 512 ≤ w.toNat) :
    (s.push u).readByte w = s.readByte w := by
  rw [State.readByte_push, if_neg (stackAddr_ne_of_high h _)]

/-! ### Trap entry and return -/

theorem State.enterTrap_eq (s : State) :
    s.enterTrap =
      ((((s.setB true).pushWord s.pc).push (s.setB true).p).setPc (s.readWord Config.irqVector)) := by
  have hv : ∀ (t : State) (u : Byte), (t.push u).readWord Config.irqVector = t.readWord Config.irqVector := by
    intro t u
    simp only [State.readWord]
    rw [State.readByte_push_high _ _ (by decide), State.readByte_push_high _ _ (by decide)]
  have hw : ∀ (t : State) (w : Word), (t.pushWord w).readWord Config.irqVector = t.readWord Config.irqVector := by
    intro t w
    rw [State.pushWord, hv, hv]
  simp only [State.enterTrap]
  rw [hv, hw]
  rfl

theorem State.returnFromTrap_eq (s : State) :
    s.returnFromTrap =
      ((s.setSp (s.sp + 1 + 1 + 1)).setP (s.readByte (stackAddr (s.sp + 1)))).setPc
        (hiLo (s.readByte (stackAddr (s.sp + 1 + 1))) (s.readByte (stackAddr (s.sp + 1 + 1 + 1)))) := rfl

/-! ### Shared ends of the meanings -/

theorem State.addToA_eq (s : State) (m : Byte) :
    s.addToA m = { s with
      a := (add8 s.a m s.c).1, c := (add8 s.a m s.c).2.1, v := (add8 s.a m s.c).2.2,
      z := (add8 s.a m s.c).1 == 0, n := (add8 s.a m s.c).1.msb } := rfl

theorem State.writeBack_eq (s : State) (ea : Word) (r : Byte) :
    s.writeBack ea r = (s.writeByte ea r).setNZ r := rfl

theorem State.shift_acc (s : State) (f : Byte → Bool → Byte × Bool) :
    s.shift .acc f = ((s.setA (f s.a s.c).1).setC (f s.a s.c).2).setNZ (f s.a s.c).1 := rfl

theorem State.shift_mem (s : State) (m : MemMode) (f : Byte → Bool → Byte × Bool) :
    s.shift (.mem m) f =
      ((s.writeByte (s.effAddr m) (f (s.readByte (s.effAddr m)) s.c).1).setC
        (f (s.readByte (s.effAddr m)) s.c).2).setNZ (f (s.readByte (s.effAddr m)) s.c).1 := rfl

/-- A branch changes PC alone, to the target or past the instruction (R220). -/
theorem State.branch_eq (s : State) (cond : Bool) (off : Byte) :
    s.branch cond off =
      s.setPc (if cond then s.pc + 2 + sext16 off else s.pc + 2) := by
  cases cond <;> rfl

/-! ### The status byte (R26, R27) -/

theorem packP_getLsbD : ∀ n v b d i z c : Bool,
    (packP n v b d i z c).getLsbD 7 = n ∧ (packP n v b d i z c).getLsbD 6 = v ∧
    (packP n v b d i z c).getLsbD 5 = false ∧ (packP n v b d i z c).getLsbD 4 = b ∧
    (packP n v b d i z c).getLsbD 3 = d ∧ (packP n v b d i z c).getLsbD 2 = i ∧
    (packP n v b d i z c).getLsbD 1 = z ∧ (packP n v b d i z c).getLsbD 0 = c := by decide

theorem State.p_getLsbD (s : State) :
    s.p.getLsbD 7 = s.n ∧ s.p.getLsbD 6 = s.v ∧ s.p.getLsbD 5 = false ∧ s.p.getLsbD 4 = s.b ∧
    s.p.getLsbD 3 = s.d ∧ s.p.getLsbD 2 = s.i ∧ s.p.getLsbD 1 = s.z ∧ s.p.getLsbD 0 = s.c :=
  packP_getLsbD _ _ _ _ _ _ _

/-- Writing P's own byte back changes nothing. -/
theorem State.setP_p (s : State) : s.setP s.p = s := by
  obtain ⟨h7, h6, -, h4, h3, h2, h1, h0⟩ := s.p_getLsbD
  simp only [State.setP, h7, h6, h4, h3, h2, h1, h0]

end Sys2Proof.Machine
end

