-- ==== Sys2Proof/Laws/Exec.lean ====
section
/-! SUPPORT. One equation per instruction: the next state `exec` answers, in the named operations, so that no proof unfolds
a meaning. -/

namespace Sys2Proof.Machine

variable (s : State)

theorem exec_adc (o : Operand) :
    exec (.adc o) s = .next ((s.advance (1 + operandSize o)).addToA (s.operand o)) := by
  simp only [exec, execAdc, State.advance_operand]

theorem exec_sbc (o : Operand) :
    exec (.sbc o) s = .next ((s.advance (1 + operandSize o)).addToA (~~~ s.operand o)) := by
  simp only [exec, execSbc, State.advance_operand]

theorem exec_inc (m : MemMode) :
    exec (.inc m) s = .next ((s.advance (1 + memSize m)).writeBack (s.effAddr m) (s.readByte (s.effAddr m) + 1)) := by
  simp only [exec, execInc, State.advance_effAddr]
  rfl

theorem exec_dec (m : MemMode) :
    exec (.dec m) s = .next ((s.advance (1 + memSize m)).writeBack (s.effAddr m) (s.readByte (s.effAddr m) - 1)) := by
  simp only [exec, execDec, State.advance_effAddr]
  rfl

theorem exec_inx :
    exec (.inx) s = .next (((s.advance 1).setX (s.x + 1)).setNZ (s.x + 1)) := rfl

theorem exec_iny :
    exec (.iny) s = .next (((s.advance 1).setY (s.y + 1)).setNZ (s.y + 1)) := rfl

theorem exec_dex :
    exec (.dex) s = .next (((s.advance 1).setX (s.x - 1)).setNZ (s.x - 1)) := rfl

theorem exec_dey :
    exec (.dey) s = .next (((s.advance 1).setY (s.y - 1)).setNZ (s.y - 1)) := rfl

theorem exec_and (o : Operand) :
    exec (.and o) s = .next ((s.advance (1 + operandSize o)).loadA (s.a &&& s.operand o)) := by
  simp only [exec, execAnd, State.advance_operand]
  rfl

theorem exec_ora (o : Operand) :
    exec (.ora o) s = .next ((s.advance (1 + operandSize o)).loadA (s.a ||| s.operand o)) := by
  simp only [exec, execOra, State.advance_operand]
  rfl

theorem exec_eor (o : Operand) :
    exec (.eor o) s = .next ((s.advance (1 + operandSize o)).loadA (s.a ^^^ s.operand o)) := by
  simp only [exec, execEor, State.advance_operand]
  rfl

theorem exec_bit (m : MemMode) :
    exec (.bit m) s = .next ((((s.advance (1 + memSize m)).setZ ((s.a &&& s.readByte (s.effAddr m)) == 0)).setN ((s.readByte (s.effAddr m)).getLsbD 7)).setV ((s.readByte (s.effAddr m)).getLsbD 6)) := by
  simp only [exec, execBit, State.advance_effAddr]
  rfl

theorem exec_asl (o : ShiftOperand) :
    exec (.asl o) s = .next ((s.advance (1 + shiftSize o)).shift o aslByte) := rfl

theorem exec_lsr (o : ShiftOperand) :
    exec (.lsr o) s = .next ((s.advance (1 + shiftSize o)).shift o lsrByte) := rfl

theorem exec_rol (o : ShiftOperand) :
    exec (.rol o) s = .next ((s.advance (1 + shiftSize o)).shift o rolByte) := rfl

theorem exec_ror (o : ShiftOperand) :
    exec (.ror o) s = .next ((s.advance (1 + shiftSize o)).shift o rorByte) := rfl

theorem exec_cmp (o : Operand) :
    exec (.cmp o) s = .next ((s.advance (1 + operandSize o)).compare s.a (s.operand o)) := by
  simp only [exec, execCmp, State.advance_operand]
  rfl

theorem exec_cpx (o : Operand) :
    exec (.cpx o) s = .next ((s.advance (1 + operandSize o)).compare s.x (s.operand o)) := by
  simp only [exec, execCpx, State.advance_operand]
  rfl

theorem exec_cpy (o : Operand) :
    exec (.cpy o) s = .next ((s.advance (1 + operandSize o)).compare s.y (s.operand o)) := by
  simp only [exec, execCpy, State.advance_operand]
  rfl

theorem exec_lda (o : Operand) :
    exec (.lda o) s = .next (((s.advance (1 + operandSize o)).setA (s.operand o)).setNZ (s.operand o)) := by
  simp only [exec, execLda, State.advance_operand]

theorem exec_ldx (o : Operand) :
    exec (.ldx o) s = .next (((s.advance (1 + operandSize o)).setX (s.operand o)).setNZ (s.operand o)) := by
  simp only [exec, execLdx, State.advance_operand]

theorem exec_ldy (o : Operand) :
    exec (.ldy o) s = .next (((s.advance (1 + operandSize o)).setY (s.operand o)).setNZ (s.operand o)) := by
  simp only [exec, execLdy, State.advance_operand]

theorem exec_sta (m : MemMode) :
    exec (.sta m) s = .next ((s.advance (1 + memSize m)).writeByte (s.effAddr m) s.a) := by
  simp only [exec, execSta, State.advance_effAddr]
  rfl

theorem exec_stx (m : MemMode) :
    exec (.stx m) s = .next ((s.advance (1 + memSize m)).writeByte (s.effAddr m) s.x) := by
  simp only [exec, execStx, State.advance_effAddr]
  rfl

theorem exec_sty (m : MemMode) :
    exec (.sty m) s = .next ((s.advance (1 + memSize m)).writeByte (s.effAddr m) s.y) := by
  simp only [exec, execSty, State.advance_effAddr]
  rfl

theorem exec_tax :
    exec (.tax) s = .next (((s.advance 1).setX s.a).setNZ s.a) := rfl

theorem exec_tay :
    exec (.tay) s = .next (((s.advance 1).setY s.a).setNZ s.a) := rfl

theorem exec_txa :
    exec (.txa) s = .next (((s.advance 1).setA s.x).setNZ s.x) := rfl

theorem exec_tya :
    exec (.tya) s = .next (((s.advance 1).setA s.y).setNZ s.y) := rfl

theorem exec_tsx :
    exec (.tsx) s = .next (((s.advance 1).setX s.sp).setNZ s.sp) := rfl

theorem exec_txs :
    exec (.txs) s = .next ((s.advance 1).setSp s.x) := rfl

theorem exec_pha :
    exec (.pha) s = .next ((s.advance 1).push s.a) := rfl

theorem exec_php :
    exec (.php) s = .next ((s.advance 1).push s.p) := rfl

theorem exec_pla :
    exec (.pla) s = .next ((((s.advance 1).setSp (s.sp + 1)).setA (s.readByte (stackAddr (s.sp + 1)))).setNZ (s.readByte (stackAddr (s.sp + 1)))) := rfl

theorem exec_plp :
    exec (.plp) s = .next (((s.advance 1).setSp (s.sp + 1)).setP (s.readByte (stackAddr (s.sp + 1)))) := rfl

theorem exec_jsr (target : Word) :
    exec (.jsr target) s = .next (((s.advance 3).pushWord (s.pc + 3)).setPc target) := rfl

theorem exec_rts :
    exec (.rts) s = .next (((s.setSp (s.sp + 1)).setSp (s.sp + 1 + 1)).setPc (hiLo (s.readByte (stackAddr (s.sp + 1))) (s.readByte (stackAddr (s.sp + 1 + 1))))) := rfl

theorem exec_brk :
    exec (.brk) s = .next ((s.advance 1).enterTrap) := rfl

theorem exec_rti :
    exec (.rti) s = .next (s.returnFromTrap) := rfl

theorem exec_bcc (off : Byte) :
    exec (.bcc off) s = .next (s.branch (!s.c) off) := rfl

theorem exec_bcs (off : Byte) :
    exec (.bcs off) s = .next (s.branch s.c off) := rfl

theorem exec_beq (off : Byte) :
    exec (.beq off) s = .next (s.branch s.z off) := rfl

theorem exec_bne (off : Byte) :
    exec (.bne off) s = .next (s.branch (!s.z) off) := rfl

theorem exec_bmi (off : Byte) :
    exec (.bmi off) s = .next (s.branch s.n off) := rfl

theorem exec_bpl (off : Byte) :
    exec (.bpl off) s = .next (s.branch (!s.n) off) := rfl

theorem exec_bvc (off : Byte) :
    exec (.bvc off) s = .next (s.branch (!s.v) off) := rfl

theorem exec_bvs (off : Byte) :
    exec (.bvs off) s = .next (s.branch s.v off) := rfl

theorem exec_jmpAbs (target : Word) :
    exec (.jmpAbs target) s = .next (s.setPc target) := rfl

theorem exec_jmpInd (pointer : Word) :
    exec (.jmpInd pointer) s = .next (s.setPc (s.readWord pointer)) := rfl

theorem exec_clc :
    exec (.clc) s = .next ((s.advance 1).setC false) := rfl

theorem exec_cld :
    exec (.cld) s = .next ((s.advance 1).setD false) := rfl

theorem exec_cli :
    exec (.cli) s = .next ((s.advance 1).setI false) := rfl

theorem exec_clv :
    exec (.clv) s = .next ((s.advance 1).setV false) := rfl

theorem exec_sec :
    exec (.sec) s = .next ((s.advance 1).setC true) := rfl

theorem exec_sed :
    exec (.sed) s = .next ((s.advance 1).setD true) := rfl

theorem exec_sei :
    exec (.sei) s = .next ((s.advance 1).setI true) := rfl

theorem exec_nop :
    exec (.nop) s = .next (s.advance 1) := rfl

theorem exec_unmapped (op : Byte) :
    exec (.unmapped op) s = .next (s.advance 1) := rfl

end Sys2Proof.Machine
end

