-- ==== Sys2Proof/Laws/PerInstr.lean ====
section
/-! SUPPORT. The families of statements made per instruction. EncodeLength: the bytes the encoder gives an instruction are
as many as its length (spec/30_encoding.md R80, R82). -/

namespace Sys2Proof.Laws.EncodeLength

open Sys2Proof.Machine

/-- The instruction's encoding, where it has one, is of its length. -/
def Statement (i : Instr) : Prop := ∀ bytes, encode i = some bytes → bytes.length = instrLength i

theorem mem_length {t : ModeOpcodes} {m : MemMode} {bytes : List Byte} (h : encodeMem t m = some bytes) :
    bytes.length = 1 + memSize m := by
  cases m <;> simp only [encodeMem, Option.map_eq_some_iff] at h <;> obtain ⟨_, -, rfl⟩ := h <;> rfl

theorem operand_length {t : ModeOpcodes} {o : Operand} {bytes : List Byte} (h : encodeOperand t o = some bytes) :
    bytes.length = 1 + operandSize o := by
  cases o with
  | imm nn =>
    simp only [encodeOperand, Option.map_eq_some_iff] at h
    obtain ⟨_, -, rfl⟩ := h
    rfl
  | mem m => exact mem_length h

theorem shift_length {t : ModeOpcodes} {o : ShiftOperand} {bytes : List Byte} (h : encodeShift t o = some bytes) :
    bytes.length = 1 + shiftSize o := by
  cases o with
  | acc =>
    simp only [encodeShift, Option.map_eq_some_iff] at h
    obtain ⟨_, -, rfl⟩ := h
    rfl
  | mem m => exact mem_length h

theorem adc (o : Operand) : Statement (.adc o) := fun _ h => operand_length h

theorem sbc (o : Operand) : Statement (.sbc o) := fun _ h => operand_length h

theorem inc (m : MemMode) : Statement (.inc m) := fun _ h => mem_length h

theorem dec (m : MemMode) : Statement (.dec m) := fun _ h => mem_length h

theorem inx : Statement (.inx) := by rintro _ ⟨⟩; rfl

theorem iny : Statement (.iny) := by rintro _ ⟨⟩; rfl

theorem dex : Statement (.dex) := by rintro _ ⟨⟩; rfl

theorem dey : Statement (.dey) := by rintro _ ⟨⟩; rfl

theorem and (o : Operand) : Statement (.and o) := fun _ h => operand_length h

theorem ora (o : Operand) : Statement (.ora o) := fun _ h => operand_length h

theorem eor (o : Operand) : Statement (.eor o) := fun _ h => operand_length h

theorem bit (m : MemMode) : Statement (.bit m) := fun _ h => mem_length h

theorem asl (o : ShiftOperand) : Statement (.asl o) := fun _ h => shift_length h

theorem lsr (o : ShiftOperand) : Statement (.lsr o) := fun _ h => shift_length h

theorem rol (o : ShiftOperand) : Statement (.rol o) := fun _ h => shift_length h

theorem ror (o : ShiftOperand) : Statement (.ror o) := fun _ h => shift_length h

theorem cmp (o : Operand) : Statement (.cmp o) := fun _ h => operand_length h

theorem cpx (o : Operand) : Statement (.cpx o) := fun _ h => operand_length h

theorem cpy (o : Operand) : Statement (.cpy o) := fun _ h => operand_length h

theorem lda (o : Operand) : Statement (.lda o) := fun _ h => operand_length h

theorem ldx (o : Operand) : Statement (.ldx o) := fun _ h => operand_length h

theorem ldy (o : Operand) : Statement (.ldy o) := fun _ h => operand_length h

theorem sta (m : MemMode) : Statement (.sta m) := fun _ h => mem_length h

theorem stx (m : MemMode) : Statement (.stx m) := fun _ h => mem_length h

theorem sty (m : MemMode) : Statement (.sty m) := fun _ h => mem_length h

theorem tax : Statement (.tax) := by rintro _ ⟨⟩; rfl

theorem tay : Statement (.tay) := by rintro _ ⟨⟩; rfl

theorem txa : Statement (.txa) := by rintro _ ⟨⟩; rfl

theorem tya : Statement (.tya) := by rintro _ ⟨⟩; rfl

theorem tsx : Statement (.tsx) := by rintro _ ⟨⟩; rfl

theorem txs : Statement (.txs) := by rintro _ ⟨⟩; rfl

theorem pha : Statement (.pha) := by rintro _ ⟨⟩; rfl

theorem php : Statement (.php) := by rintro _ ⟨⟩; rfl

theorem pla : Statement (.pla) := by rintro _ ⟨⟩; rfl

theorem plp : Statement (.plp) := by rintro _ ⟨⟩; rfl

theorem jsr (target : Word) : Statement (.jsr target) := by rintro _ ⟨⟩; rfl

theorem rts : Statement (.rts) := by rintro _ ⟨⟩; rfl

theorem brk : Statement (.brk) := by rintro _ ⟨⟩; rfl

theorem rti : Statement (.rti) := by rintro _ ⟨⟩; rfl

theorem bcc (off : Byte) : Statement (.bcc off) := by rintro _ ⟨⟩; rfl

theorem bcs (off : Byte) : Statement (.bcs off) := by rintro _ ⟨⟩; rfl

theorem beq (off : Byte) : Statement (.beq off) := by rintro _ ⟨⟩; rfl

theorem bne (off : Byte) : Statement (.bne off) := by rintro _ ⟨⟩; rfl

theorem bmi (off : Byte) : Statement (.bmi off) := by rintro _ ⟨⟩; rfl

theorem bpl (off : Byte) : Statement (.bpl off) := by rintro _ ⟨⟩; rfl

theorem bvc (off : Byte) : Statement (.bvc off) := by rintro _ ⟨⟩; rfl

theorem bvs (off : Byte) : Statement (.bvs off) := by rintro _ ⟨⟩; rfl

theorem jmpAbs (target : Word) : Statement (.jmpAbs target) := by rintro _ ⟨⟩; rfl

theorem jmpInd (pointer : Word) : Statement (.jmpInd pointer) := by rintro _ ⟨⟩; rfl

theorem clc : Statement (.clc) := by rintro _ ⟨⟩; rfl

theorem cld : Statement (.cld) := by rintro _ ⟨⟩; rfl

theorem cli : Statement (.cli) := by rintro _ ⟨⟩; rfl

theorem clv : Statement (.clv) := by rintro _ ⟨⟩; rfl

theorem sec : Statement (.sec) := by rintro _ ⟨⟩; rfl

theorem sed : Statement (.sed) := by rintro _ ⟨⟩; rfl

theorem sei : Statement (.sei) := by rintro _ ⟨⟩; rfl

theorem nop : Statement (.nop) := by rintro _ ⟨⟩; rfl

theorem unmapped (op : Byte) : Statement (.unmapped op) := by
  intro bytes h
  simp only [encode] at h
  split at h
  · cases h; rfl
  · cases h

end Sys2Proof.Laws.EncodeLength
end

