-- ==== Sys2Proof/Laws/Safety.lean ====
section
/-! SUPPORT. One lemma per term of Safety.lean, which reduces it to equations between fields, for the field lemmas of
Laws/State.lean to close. -/

namespace Sys2Proof.Machine

/-- The frame, field by field. -/
theorem changesOnly_iff (ps : List Part) (s t : State) :
    ChangesOnly ps s t ↔
      (Part.a ∉ ps → t.a = s.a) ∧ (Part.x ∉ ps → t.x = s.x) ∧ (Part.y ∉ ps → t.y = s.y) ∧
      (Part.sp ∉ ps → t.sp = s.sp) ∧ (Part.pc ∉ ps → t.pc = s.pc) ∧
      (Part.n ∉ ps → t.n = s.n) ∧ (Part.v ∉ ps → t.v = s.v) ∧ (Part.b ∉ ps → t.b = s.b) ∧
      (Part.d ∉ ps → t.d = s.d) ∧ (Part.i ∉ ps → t.i = s.i) ∧ (Part.z ∉ ps → t.z = s.z) ∧
      (Part.c ∉ ps → t.c = s.c) ∧ (Part.mem ∉ ps → ∀ w : Word, t.readByte w = s.readByte w) := by
  constructor
  · intro h
    exact ⟨h .a, h .x, h .y, h .sp, h .pc, h .n, h .v, h .b, h .d, h .i, h .z, h .c, h .mem⟩
  · rintro ⟨ha, hx, hy, hsp, hpc, hn, hv, hb, hd, hi, hz, hc, hm⟩ p
    cases p <;> assumption

/-- SetNZ's flags reflect its byte (R36). -/
theorem reflectsNZ_of {u : Byte} {t : State} (hz : t.z = (u == 0)) (hn : t.n = u.msb) : ReflectsNZ u t := by
  refine ⟨?_, by rw [hn]; rfl⟩
  rw [hz, Bool.eq_iff_iff]
  simp [BitVec.toNat_eq]

/-- `advance` moves PC past `k` bytes (R25). -/
theorem pcPast_of {k : Nat} {s t : State} (h : t.pc = s.pc + BitVec.ofNat 16 k) : PcPast k s t := by
  unfold PcPast
  rw [h]
  simp

/-- A state whose memory is that of `s` after one byte write. -/
theorem storesByte_of {ea : Word} {u : Byte} {s t : State} (h : t.mem = (s.writeByte ea u).mem) :
    StoresByte ea u s t := by
  have hr : ∀ w, t.readByte w = (s.writeByte ea u).readByte w := fun w => by simp only [State.readByte, h]
  exact ⟨by rw [hr, State.readByte_writeByte_same], fun w hw => by rw [hr, State.readByte_writeByte_ne _ _ hw]⟩

end Sys2Proof.Machine
end

