-- ==== Sys2Proof/Laws/Step.lean ====
section
/-! SUPPORT. The decoder on a first byte, and the step: it is exec of the fetched instruction, and what the fetch gives
when the table entry at PC is known. -/

namespace Sys2Proof.Machine

/-- A first byte is read through its table entry. -/
theorem decode_cons (op : Byte) (rest : List Byte) : decode (op :: rest) = readOperands op rest (templateOf op) := rfl

theorem step_eq_exec (s : State) : step s = exec s.fetchInstr s := rfl

/-- A one-byte entry at PC is fetched as it is. -/
theorem fetchInstr_bytes1 {s : State} {i : Instr} (h : templateOf (s.readByte s.pc) = .bytes1 i) :
    s.fetchInstr = i := by simp only [State.fetchInstr, h]

theorem fetchInstr_bytes2 {s : State} {f : Byte → Instr} (h : templateOf (s.readByte s.pc) = .bytes2 f) :
    s.fetchInstr = f (s.readByte (s.pc + 1)) := by simp only [State.fetchInstr, h]

theorem fetchInstr_bytes3 {s : State} {f : Word → Instr} (h : templateOf (s.readByte s.pc) = .bytes3 f) :
    s.fetchInstr = f (hiLo (s.readByte (s.pc + 2)) (s.readByte (s.pc + 1))) := by simp only [State.fetchInstr, h]

end Sys2Proof.Machine
end

