-- ==== Sys2Proof/Tests/Slice0.lean ====
section
/-! SUPPORT. Tests of the model against values taken from the spec: ill-formed instructions refused, encodings written out
from spec/30_encoding.md R88 and R92, single steps from spec/95_test_vectors.md Part 2, and for every statement with
hypotheses a state and operands that meet them, at the boundary of each clause. -/

namespace Sys2Proof.Tests

open Sys2Proof Sys2Proof.Machine

/-- The reset state with bytes placed at an address and PC there (95_test_vectors.md: "Start"). -/
def placed (pc : Word) (bytes : List Byte) : State := (State.reset.writeBytes pc bytes).setPc pc

/-- One step ends in a next state that differs from `s` by `changes` and nothing else. -/
def stepsTo (s : State) (changes : State → State) : Bool :=
  match step s with
  | .next t => t == changes s
  | .fault _ => false
  | .refused _ => false

/-- The decoder reads this instruction from the front of these bytes and leaves `rest`. -/
def decodesTo (bytes : List Byte) (i : Instr) (rest : List Byte) : Bool :=
  match decode bytes with
  | .ok r => r == (i, rest)
  | .error _ => false

/-- The decoder rejects these bytes, for this reason. -/
def rejects (bytes : List Byte) (e : DecodeError) : Bool :=
  match decode bytes with
  | .ok _ => false
  | .error r => r == e

/-- The decoder reads exactly this instruction from exactly these bytes, and the encoder writes them. -/
def pairs (bytes : List Byte) (i : Instr) : Bool := decodesTo bytes i [] && encode i == some bytes

/-! ### Well-formedness: one ill-formed term for each check -/

/-- R108: only LDX and STX have zero-page,Y. -/
theorem test_wf_general : Instr.wf (.adc (.mem (.zpy 0x10))) = false ∧ Instr.wf (.sta (.zpy 0x10)) = false := by decide
/-- R133, R182: INC and LDY have no Y-indexed and no pointer mode. -/
theorem test_wf_plain_or_x :
    Instr.wf (.inc (.absy 0x1234)) = false ∧ Instr.wf (.dec (.indx 0x10)) = false ∧
    Instr.wf (.ldy (.mem (.indy 0x10))) = false ∧ Instr.wf (.ldy (.mem (.zpy 0x10))) = false := by decide
/-- R155: a shift has no Y-indexed and no pointer mode. -/
theorem test_wf_shift :
    Instr.wf (.asl (.mem (.absy 0x1234))) = false ∧ Instr.wf (.ror (.mem (.indx 0x10))) = false := by decide
/-- R181: LDX has no X-indexed and no pointer mode. -/
theorem test_wf_plain_or_y :
    Instr.wf (.ldx (.mem (.zpx 0x10))) = false ∧ Instr.wf (.ldx (.mem (.absx 0x1234))) = false ∧
    Instr.wf (.ldx (.mem (.indx 0x10))) = false := by decide
/-- R153, R172, R173: BIT, CPX and CPY have no indexed mode. -/
theorem test_wf_plain :
    Instr.wf (.bit (.zpx 0x10)) = false ∧ Instr.wf (.cpx (.mem (.absx 0x1234))) = false ∧
    Instr.wf (.cpy (.mem (.zpx 0x10))) = false := by decide
/-- R184: STX has no absolute,Y. -/
theorem test_wf_stx : Instr.wf (.stx (.absy 0x1234)) = false ∧ Instr.wf (.stx (.zpx 0x10)) = false := by decide
/-- R185: STY has no absolute,X. -/
theorem test_wf_sty : Instr.wf (.sty (.absx 0x1234)) = false ∧ Instr.wf (.sty (.zpy 0x10)) = false := by decide
/-- R89: 0xEA is NOP, so it is no unmapped byte. -/
theorem test_wf_unmapped : Instr.wf (.unmapped 0xEA) = false ∧ Instr.wf (.unmapped 0x80) = true := by decide

/-! ### Decoding: a word of every constructor, from the list by mnemonic of R88 -/

/-- 41_arithmetic.md -/
theorem test_decode_arithmetic :
    pairs [0x71, 0x20] (.adc (.mem (.indy 0x20))) ∧ pairs [0xF9, 0x34, 0x12] (.sbc (.mem (.absy 0x1234))) ∧
    pairs [0xFE, 0x34, 0x12] (.inc (.absx 0x1234)) ∧ pairs [0xD6, 0x10] (.dec (.zpx 0x10)) ∧
    pairs [0xE8] .inx ∧ pairs [0xC8] .iny ∧ pairs [0xCA] .dex ∧ pairs [0x88] .dey := by decide
/-- 42_bitwise_shift.md -/
theorem test_decode_bitwise_shift :
    pairs [0x21, 0x20] (.and (.mem (.indx 0x20))) ∧ pairs [0x19, 0x34, 0x12] (.ora (.mem (.absy 0x1234))) ∧
    pairs [0x55, 0x10] (.eor (.mem (.zpx 0x10))) ∧ pairs [0x2C, 0x34, 0x12] (.bit (.abs 0x1234)) ∧
    pairs [0x0A] (.asl .acc) ∧ pairs [0x46, 0x10] (.lsr (.mem (.zp 0x10))) ∧
    pairs [0x3E, 0x34, 0x12] (.rol (.mem (.absx 0x1234))) ∧ pairs [0x76, 0x10] (.ror (.mem (.zpx 0x10))) := by decide
/-- 43_compare.md -/
theorem test_decode_compare :
    pairs [0xD1, 0x20] (.cmp (.mem (.indy 0x20))) ∧ pairs [0xE0, 0x20] (.cpx (.imm 0x20)) ∧
    pairs [0xCC, 0x34, 0x12] (.cpy (.mem (.abs 0x1234))) := by decide
/-- 44_load_store_transfer.md -/
theorem test_decode_load_store_transfer :
    pairs [0xB9, 0x34, 0x12] (.lda (.mem (.absy 0x1234))) ∧ pairs [0xB6, 0x10] (.ldx (.mem (.zpy 0x10))) ∧
    pairs [0xBC, 0x34, 0x12] (.ldy (.mem (.absx 0x1234))) ∧ pairs [0x81, 0x20] (.sta (.indx 0x20)) ∧
    pairs [0x96, 0x10] (.stx (.zpy 0x10)) ∧ pairs [0x94, 0x10] (.sty (.zpx 0x10)) ∧
    pairs [0xAA] .tax ∧ pairs [0xA8] .tay ∧ pairs [0x8A] .txa ∧ pairs [0x98] .tya ∧ pairs [0xBA] .tsx ∧
    pairs [0x9A] .txs := by decide
/-- 45_stack_subroutine_interrupt.md -/
theorem test_decode_stack :
    pairs [0x48] .pha ∧ pairs [0x08] .php ∧ pairs [0x68] .pla ∧ pairs [0x28] .plp ∧
    pairs [0x20, 0x34, 0x12] (.jsr 0x1234) ∧ pairs [0x60] .rts ∧ pairs [0x00] .brk ∧ pairs [0x40] .rti := by decide
/-- 46_branch.md, 47_jump.md -/
theorem test_decode_branch_jump :
    pairs [0x90, 0x10] (.bcc 0x10) ∧ pairs [0xB0, 0xF0] (.bcs 0xF0) ∧ pairs [0xF0, 0x05] (.beq 0x05) ∧
    pairs [0xD0, 0xFB] (.bne 0xFB) ∧ pairs [0x30, 0x7F] (.bmi 0x7F) ∧ pairs [0x10, 0x80] (.bpl 0x80) ∧
    pairs [0x50, 0xFE] (.bvc 0xFE) ∧ pairs [0x70, 0x00] (.bvs 0x00) ∧
    pairs [0x4C, 0x34, 0x12] (.jmpAbs 0x1234) ∧ pairs [0x6C, 0xFF, 0x10] (.jmpInd 0x10FF) := by decide
/-- 48_flag_nop.md -/
theorem test_decode_flag_nop :
    pairs [0x18] .clc ∧ pairs [0xD8] .cld ∧ pairs [0x58] .cli ∧ pairs [0xB8] .clv ∧ pairs [0x38] .sec ∧
    pairs [0xF8] .sed ∧ pairs [0x78] .sei ∧ pairs [0xEA] .nop ∧ pairs [0x02] (.unmapped 0x02) ∧
    pairs [0xFF] (.unmapped 0xFF) := by decide
/-- R80: the decoder takes the instruction's own bytes and leaves the rest, and rejects by name a list that is too short. -/
theorem test_decode_rest_and_short :
    decodesTo [0xA9, 0x10, 0xE8] (.lda (.imm 0x10)) [0xE8] ∧ rejects [] .noOpcode ∧
    rejects [0xA9] (.operandMissing 0xA9) ∧ rejects [0x4C, 0x34] (.operandMissing 0x4C) := by decide
/-- An opcode and operand bytes the table gives no bits are zeros; bits above `nbits` are dropped. -/
theorem test_decode_table_word :
    decodeTableWord 8 0x6D = some (.adc (.mem (.abs 0x0000))) ∧ decodeTableWord 24 0x12346D = some (.adc (.mem (.abs 0x1234))) ∧
    decodeTableWord 8 0xFFFF69 = some (.adc (.imm 0x00)) := by decide
/-- The word is placed at PC and the step runs it, as the first instruction after reset. -/
theorem test_with_fetch_word :
    (State.reset.withFetchWord 16 0x37A9).readByte 0x0001 = 0x37 ∧
    stepsTo (State.reset.withFetchWord 16 0x37A9) (fun t => t |>.setA 0x37 |>.setPc 0x0002) = true := by decide

/-! ### Assembly: the examples of R92 -/

theorem test_assembly_examples :
    assembly 0 .inx = "INX".toList ∧ assembly 0 (.asl .acc) = "ASL A".toList ∧
    assembly 0 (.lda (.imm 0x10)) = "LDA #$10".toList ∧ assembly 0 (.lda (.mem (.zp 0x10))) = "LDA $10".toList ∧
    assembly 0 (.lda (.mem (.zpx 0x10))) = "LDA $10,X".toList ∧ assembly 0 (.ldx (.mem (.zpy 0x10))) = "LDX $10,Y".toList ∧
    assembly 0 (.lda (.mem (.abs 0x1234))) = "LDA $1234".toList ∧
    assembly 0 (.lda (.mem (.absx 0x1234))) = "LDA $1234,X".toList ∧
    assembly 0 (.lda (.mem (.absy 0x1234))) = "LDA $1234,Y".toList := by decide
theorem test_assembly_examples_pointers :
    assembly 0 (.lda (.mem (.indx 0x10))) = "LDA ($10,X)".toList ∧
    assembly 0 (.lda (.mem (.indy 0x10))) = "LDA ($10),Y".toList ∧
    assembly 0 (.jmpInd 0x1234) = "JMP ($1234)".toList ∧ assembly 0x0208 (.bne 0xFB) = "BNE $0205".toList := by decide
/-- R92: "An assembler uses the zero-page form when the mnemonic has one and the address is below 0x0100". -/
theorem test_plain_mode :
    plainMode true 0x00FF = .zp 0xFF ∧ plainMode true 0x0100 = .abs 0x0100 ∧ plainMode false 0x0010 = .abs 0x0010 := by decide

/-! ### One step of each instruction -/

/-- 95_test_vectors.md, "ADC carry-in makes the overflow" (R131) -/
theorem test_adc_carry_in_makes_the_overflow :
    stepsTo (placed 0x0200 [0x69, 0x00] |>.setA 0x7F |>.setP 0x01)
      (fun t => t |>.setA 0x80 |>.setP 0xC0 |>.setPc 0x0202) = true := by decide

/-- 95_test_vectors.md, "ADC abs,X across a page" (R131) -/
theorem test_adc_abs_x_across_a_page :
    stepsTo (placed 0x0200 [0x7D, 0xFF, 0x12] |>.setA 0x01 |>.setX 0x01 |>.writeByte 0x1300 0x02)
      (fun t => t |>.setA 0x03 |>.setPc 0x0203) = true := by decide

/-- 95_test_vectors.md, "SBC signed overflow up" (R132) -/
theorem test_sbc_signed_overflow_up :
    stepsTo (placed 0x0200 [0xE9, 0xB0] |>.setA 0x50 |>.setP 0x01)
      (fun t => t |>.setA 0xA0 |>.setP 0xC0 |>.setPc 0x0202) = true := by decide

/-- 95_test_vectors.md, "SBC with C = 0 subtracts one more" (R132) -/
theorem test_sbc_with_c_0_subtracts_one_more :
    stepsTo (placed 0x0200 [0xE9, 0x03] |>.setA 0x05)
      (fun t => t |>.setA 0x01 |>.setP 0x01 |>.setPc 0x0202) = true := by decide

/-- 95_test_vectors.md, "INC zp wraps to zero" (R133) -/
theorem test_inc_zp_wraps_to_zero :
    stepsTo (placed 0x0200 [0xE6, 0x10] |>.setP 0x81 |>.writeByte 0x0010 0xFF)
      (fun t => t |>.setP 0x03 |>.setPc 0x0202 |>.writeByte 0x0010 0x00) = true := by decide

/-- 95_test_vectors.md, "INC on its own operand byte" (40 R119, R121) -/
theorem test_inc_on_its_own_operand_byte :
    stepsTo (placed 0x0200 [0xEE, 0x01, 0x02])
      (fun t => t |>.setPc 0x0203 |>.writeByte 0x0201 0x02) = true := by decide

/-- 95_test_vectors.md, "DEC zp below zero" (R134) -/
theorem test_dec_zp_below_zero :
    stepsTo (placed 0x0200 [0xC6, 0x10] |>.writeByte 0x0010 0x00)
      (fun t => t |>.setP 0x80 |>.setPc 0x0202 |>.writeByte 0x0010 0xFF) = true := by decide

/-- 95_test_vectors.md, "DEC zp,X wraps in zero page" (R134) -/
theorem test_dec_zp_x_wraps_in_zero_page :
    stepsTo (placed 0x0200 [0xD6, 0xFF] |>.setX 0x02 |>.writeByte 0x0001 0x01)
      (fun t => t |>.setP 0x02 |>.setPc 0x0202 |>.writeByte 0x0001 0x00) = true := by decide

/-- 95_test_vectors.md, "INX, source §8 scenario 4" (R135) -/
theorem test_inx_scenario_4 :
    stepsTo (placed 0x0200 [0xE8] |>.setX 0xFF)
      (fun t => t |>.setX 0x00 |>.setP 0x02 |>.setPc 0x0201) = true := by decide

/-- 95_test_vectors.md, "INY to negative" (R136) -/
theorem test_iny_to_negative :
    stepsTo (placed 0x0200 [0xC8] |>.setY 0x7F)
      (fun t => t |>.setY 0x80 |>.setP 0x80 |>.setPc 0x0201) = true := by decide

/-- 95_test_vectors.md, "DEX below zero" (R137) -/
theorem test_dex_below_zero :
    stepsTo (placed 0x0200 [0xCA] |>.setX 0x00)
      (fun t => t |>.setX 0xFF |>.setP 0x80 |>.setPc 0x0201) = true := by decide

/-- 95_test_vectors.md, "DEY to zero" (R138) -/
theorem test_dey_to_zero :
    stepsTo (placed 0x0200 [0x88] |>.setY 0x01)
      (fun t => t |>.setY 0x00 |>.setP 0x02 |>.setPc 0x0201) = true := by decide

/-- 95_test_vectors.md, "AND to zero, C and V kept" (R150) -/
theorem test_and_to_zero_c_and_v_kept :
    stepsTo (placed 0x0200 [0x29, 0x0F] |>.setA 0xF0 |>.setP 0x41)
      (fun t => t |>.setA 0x00 |>.setP 0x43 |>.setPc 0x0202) = true := by decide

/-- 95_test_vectors.md, "AND (zp),Y" (R150) -/
theorem test_and_indy :
    stepsTo (placed 0x0200 [0x31, 0x20] |>.setA 0xFF |>.setY 0x01 |>.writeByte 0x0020 0x00 |>.writeByte 0x0021 0x30
        |>.writeByte 0x3001 0x81)
      (fun t => t |>.setA 0x81 |>.setP 0x80 |>.setPc 0x0202) = true := by decide

/-- 95_test_vectors.md, "ORA imm to negative" (R151) -/
theorem test_ora_imm_to_negative :
    stepsTo (placed 0x0200 [0x09, 0x80] |>.setA 0x01)
      (fun t => t |>.setA 0x81 |>.setP 0x80 |>.setPc 0x0202) = true := by decide

/-- 95_test_vectors.md, "EOR imm, bitwise NOT" (R152) -/
theorem test_eor_imm_bitwise_not :
    stepsTo (placed 0x0200 [0x49, 0xFF] |>.setA 0x5A)
      (fun t => t |>.setA 0xA5 |>.setP 0x80 |>.setPc 0x0202) = true := by decide

/-- 95_test_vectors.md, "EOR abs with equal value" (R152) -/
theorem test_eor_abs_with_equal_value :
    stepsTo (placed 0x0200 [0x4D, 0x00, 0x03] |>.setA 0x3C |>.writeByte 0x0300 0x3C)
      (fun t => t |>.setA 0x00 |>.setP 0x02 |>.setPc 0x0203) = true := by decide

/-- 95_test_vectors.md, "BIT zp, all three set" (R153) -/
theorem test_bit_zp_all_three_set :
    stepsTo (placed 0x0200 [0x24, 0x40] |>.setA 0x01 |>.writeByte 0x0040 0xC0)
      (fun t => t |>.setP 0xC2 |>.setPc 0x0202) = true := by decide

/-- 95_test_vectors.md, "BIT abs clears N and V" (R153) -/
theorem test_bit_abs_clears_n_and_v :
    stepsTo (placed 0x0200 [0x2C, 0x00, 0x10] |>.setA 0xFF |>.setP 0xC0 |>.writeByte 0x1000 0x3F)
      (fun t => t |>.setP 0x00 |>.setPc 0x0203) = true := by decide

/-- 95_test_vectors.md, "ASL A ignores old C" (R155) -/
theorem test_asl_a_ignores_old_c :
    stepsTo (placed 0x0200 [0x0A] |>.setA 0xC1 |>.setP 0x01)
      (fun t => t |>.setA 0x82 |>.setP 0x81 |>.setPc 0x0201) = true := by decide

/-- 95_test_vectors.md, "ASL zp" (R155) -/
theorem test_asl_zp :
    stepsTo (placed 0x0200 [0x06, 0x10] |>.writeByte 0x0010 0x41)
      (fun t => t |>.setP 0x80 |>.setPc 0x0202 |>.writeByte 0x0010 0x82) = true := by decide

/-- 95_test_vectors.md, "LSR A, bit 0 out" (R156) -/
theorem test_lsr_a_bit_0_out :
    stepsTo (placed 0x0200 [0x4A] |>.setA 0x01)
      (fun t => t |>.setA 0x00 |>.setP 0x03 |>.setPc 0x0201) = true := by decide

/-- 95_test_vectors.md, "LSR abs, N cleared" (R156) -/
theorem test_lsr_abs_n_cleared :
    stepsTo (placed 0x0200 [0x4E, 0x00, 0x10] |>.setP 0x80 |>.writeByte 0x1000 0xFF)
      (fun t => t |>.setP 0x01 |>.setPc 0x0203 |>.writeByte 0x1000 0x7F) = true := by decide

/-- 95_test_vectors.md, "ROL A, C into bit 0" (R157) -/
theorem test_rol_a_c_into_bit_0 :
    stepsTo (placed 0x0200 [0x2A] |>.setA 0x40 |>.setP 0x01)
      (fun t => t |>.setA 0x81 |>.setP 0x80 |>.setPc 0x0201) = true := by decide

/-- 95_test_vectors.md, "ROL zp,X" (R157) -/
theorem test_rol_zp_x :
    stepsTo (placed 0x0200 [0x36, 0x10] |>.setX 0x01 |>.setP 0x01 |>.writeByte 0x0011 0x00)
      (fun t => t |>.setP 0x00 |>.setPc 0x0202 |>.writeByte 0x0011 0x01) = true := by decide

/-- 95_test_vectors.md, "ROR zp, C into bit 7" (R158) -/
theorem test_ror_zp_c_into_bit_7 :
    stepsTo (placed 0x0200 [0x66, 0x10] |>.setP 0x01 |>.writeByte 0x0010 0x00)
      (fun t => t |>.setP 0x80 |>.setPc 0x0202 |>.writeByte 0x0010 0x80) = true := by decide

/-- 95_test_vectors.md, "ROR abs,X" (R158) -/
theorem test_ror_abs_x :
    stepsTo (placed 0x0200 [0x7E, 0x00, 0x10] |>.setX 0x02 |>.writeByte 0x1002 0x03)
      (fun t => t |>.setP 0x01 |>.setPc 0x0203 |>.writeByte 0x1002 0x01) = true := by decide

/-- 95_test_vectors.md, "CMP 0x80 with 0x00 (N from the difference)" (R170, R171) -/
theorem test_cmp_0x80_with_0x00_n_from_the_difference :
    stepsTo (placed 0x0200 [0xC9, 0x00] |>.setA 0x80)
      (fun t => t |>.setP 0x81 |>.setPc 0x0202) = true := by decide

/-- 95_test_vectors.md, "CMP (zp,X)" (R171) -/
theorem test_cmp_indx :
    stepsTo (placed 0x0200 [0xC1, 0x20] |>.setA 0x05 |>.setX 0x04 |>.writeByte 0x0024 0x00 |>.writeByte 0x0025 0x20
        |>.writeByte 0x2000 0x05)
      (fun t => t |>.setP 0x03 |>.setPc 0x0202) = true := by decide

/-- 95_test_vectors.md, "CPX zp greater" (R172) -/
theorem test_cpx_zp_greater :
    stepsTo (placed 0x0200 [0xE4, 0x10] |>.setX 0x06 |>.writeByte 0x0010 0x05)
      (fun t => t |>.setP 0x01 |>.setPc 0x0202) = true := by decide

/-- 95_test_vectors.md, "CPX imm equal" (R172) -/
theorem test_cpx_imm_equal :
    stepsTo (placed 0x0200 [0xE0, 0x05] |>.setX 0x05)
      (fun t => t |>.setP 0x03 |>.setPc 0x0202) = true := by decide

/-- 95_test_vectors.md, "CPY imm, 0xFF with 0" (R173) -/
theorem test_cpy_imm_0xff_with_0 :
    stepsTo (placed 0x0200 [0xC0, 0x00] |>.setY 0xFF)
      (fun t => t |>.setP 0x81 |>.setPc 0x0202) = true := by decide

/-- 95_test_vectors.md, "CPY abs less" (R173) -/
theorem test_cpy_abs_less :
    stepsTo (placed 0x0200 [0xCC, 0x00, 0x10] |>.setY 0x00 |>.writeByte 0x1000 0x01)
      (fun t => t |>.setP 0x80 |>.setPc 0x0203) = true := by decide

/-- 95_test_vectors.md, "LDA (zp,X), pointer at 0xFF" (R180, 40 R112) -/
theorem test_lda_indx_pointer_at_0xff :
    stepsTo (placed 0x0200 [0xA1, 0xFF] |>.setX 0x00 |>.writeByte 0x0000 0x56 |>.writeByte 0x00FF 0x34
        |>.writeByte 0x0100 0x12 |>.writeByte 0x1234 0x99 |>.writeByte 0x5634 0x66)
      (fun t => t |>.setA 0x99 |>.setP 0x80 |>.setPc 0x0202) = true := by decide

/-- 95_test_vectors.md, "LDA (zp),Y, pointer at 0xFF" (R180, 40 R113) -/
theorem test_lda_indy_pointer_at_0xff :
    stepsTo (placed 0x0200 [0xB1, 0xFF] |>.setY 0x00 |>.writeByte 0x0000 0x50 |>.writeByte 0x00FF 0x00
        |>.writeByte 0x0100 0x40 |>.writeByte 0x4000 0x01 |>.writeByte 0x5000 0x02)
      (fun t => t |>.setA 0x01 |>.setPc 0x0202) = true := by decide

/-- 95_test_vectors.md, "LDX zp,Y wraps" (R181, 40 R108) -/
theorem test_ldx_zp_y_wraps :
    stepsTo (placed 0x0200 [0xB6, 0xF8] |>.setY 0x10 |>.writeByte 0x0008 0x80)
      (fun t => t |>.setX 0x80 |>.setP 0x80 |>.setPc 0x0202) = true := by decide

/-- 95_test_vectors.md, "LDX abs,Y" (R181) -/
theorem test_ldx_abs_y :
    stepsTo (placed 0x0200 [0xBE, 0x00, 0x20] |>.setX 0x33 |>.setY 0x01 |>.writeByte 0x2001 0x00)
      (fun t => t |>.setX 0x00 |>.setP 0x02 |>.setPc 0x0203) = true := by decide

/-- 95_test_vectors.md, "LDY abs,X" (R182) -/
theorem test_ldy_abs_x :
    stepsTo (placed 0x0200 [0xBC, 0x00, 0x20] |>.setX 0x03 |>.writeByte 0x2003 0x7F)
      (fun t => t |>.setY 0x7F |>.setPc 0x0203) = true := by decide

/-- 95_test_vectors.md, "STA abs, no flag change" (R183) -/
theorem test_sta_abs_no_flag_change :
    stepsTo (placed 0x0200 [0x8D, 0x00, 0x30] |>.setA 0x00 |>.setP 0x82)
      (fun t => t |>.setPc 0x0203) = true := by decide

/-- 95_test_vectors.md, "STA (zp),Y" (R183) -/
theorem test_sta_indy :
    stepsTo (placed 0x0200 [0x91, 0x40] |>.setA 0xAB |>.setY 0x10 |>.writeByte 0x0040 0xF0 |>.writeByte 0x0041 0x30)
      (fun t => t |>.setPc 0x0202 |>.writeByte 0x3100 0xAB) = true := by decide

/-- 95_test_vectors.md, "STX zp,Y" (R184) -/
theorem test_stx_zp_y :
    stepsTo (placed 0x0200 [0x96, 0xFF] |>.setX 0x99 |>.setY 0x01)
      (fun t => t |>.setPc 0x0202 |>.writeByte 0x0000 0x99) = true := by decide

/-- 95_test_vectors.md, "STY zp,X wraps" (R185) -/
theorem test_sty_zp_x_wraps :
    stepsTo (placed 0x0200 [0x94, 0xFF] |>.setX 0x02 |>.setY 0x77)
      (fun t => t |>.setPc 0x0202 |>.writeByte 0x0001 0x77) = true := by decide

/-- 95_test_vectors.md, "TAX zero" (R186) -/
theorem test_tax_zero :
    stepsTo (placed 0x0200 [0xAA] |>.setA 0x00 |>.setX 0x12)
      (fun t => t |>.setX 0x00 |>.setP 0x02 |>.setPc 0x0201) = true := by decide

/-- 95_test_vectors.md, "TAY negative" (R187) -/
theorem test_tay_negative :
    stepsTo (placed 0x0200 [0xA8] |>.setA 0x80)
      (fun t => t |>.setY 0x80 |>.setP 0x80 |>.setPc 0x0201) = true := by decide

/-- 95_test_vectors.md, "TXA" (R188) -/
theorem test_txa :
    stepsTo (placed 0x0200 [0x8A] |>.setX 0xFF)
      (fun t => t |>.setA 0xFF |>.setP 0x80 |>.setPc 0x0201) = true := by decide

/-- 95_test_vectors.md, "TYA" (R189) -/
theorem test_tya :
    stepsTo (placed 0x0200 [0x98] |>.setY 0x01 |>.setP 0x82)
      (fun t => t |>.setA 0x01 |>.setP 0x00 |>.setPc 0x0201) = true := by decide

/-- 95_test_vectors.md, "TSX after reset" (R190) -/
theorem test_tsx_after_reset :
    stepsTo (placed 0x0200 [0xBA])
      (fun t => t |>.setX 0xFF |>.setP 0x80 |>.setPc 0x0201) = true := by decide

/-- 95_test_vectors.md, "TXS, no flag change" (R191) -/
theorem test_txs_no_flag_change :
    stepsTo (placed 0x0200 [0x9A] |>.setX 0x00)
      (fun t => t |>.setSp 0x00 |>.setPc 0x0201) = true := by decide

/-- 95_test_vectors.md, "PHA at SP = 0x00 wraps" (R205, R204) -/
theorem test_pha_at_sp_0x00_wraps :
    stepsTo (placed 0x0200 [0x48] |>.setA 0x5A |>.setSp 0x00)
      (fun t => t |>.setSp 0xFF |>.setPc 0x0201 |>.writeByte 0x0100 0x5A) = true := by decide

/-- 95_test_vectors.md, "PHP pushes P as held" (R206) -/
theorem test_php_pushes_p_as_held :
    stepsTo (placed 0x0200 [0x08] |>.setP 0xC3)
      (fun t => t |>.setSp 0xFE |>.setPc 0x0201 |>.writeByte 0x01FF 0xC3) = true := by decide

/-- 95_test_vectors.md, "PHP after reset" (R206) -/
theorem test_php_after_reset :
    stepsTo (placed 0x0200 [0x08] |>.writeByte 0x01FF 0xEE)
      (fun t => t |>.setSp 0xFE |>.setPc 0x0201 |>.writeByte 0x01FF 0x00) = true := by decide

/-- 95_test_vectors.md, "PLA at SP = 0xFF wraps" (R207, R204) -/
theorem test_pla_at_sp_0xff_wraps :
    stepsTo (placed 0x0200 [0x68] |>.setA 0x55 |>.setSp 0xFF |>.writeByte 0x0100 0x00)
      (fun t => t |>.setA 0x00 |>.setSp 0x00 |>.setP 0x02 |>.setPc 0x0201) = true := by decide

/-- 95_test_vectors.md, "PLA negative" (R207) -/
theorem test_pla_negative :
    stepsTo (placed 0x0200 [0x68] |>.setSp 0xFE |>.writeByte 0x01FF 0x80)
      (fun t => t |>.setA 0x80 |>.setSp 0xFF |>.setP 0x80 |>.setPc 0x0201) = true := by decide

/-- 95_test_vectors.md, "PLP 0xFF" (R208) -/
theorem test_plp_0xff :
    stepsTo (placed 0x0200 [0x28] |>.setSp 0xFE |>.writeByte 0x01FF 0xFF)
      (fun t => t |>.setSp 0xFF |>.setP 0xDF |>.setPc 0x0201) = true := by decide

/-- 95_test_vectors.md, "PLP 0x20 (bit 5 only)" (R208) -/
theorem test_plp_0x20_bit_5_only :
    stepsTo (placed 0x0200 [0x28] |>.setSp 0xFE |>.setP 0xDF |>.writeByte 0x01FF 0x20)
      (fun t => t |>.setSp 0xFF |>.setP 0x00 |>.setPc 0x0201) = true := by decide

/-- 95_test_vectors.md, "JSR, source §8 scenario 6" (R209) -/
theorem test_jsr_scenario_6 :
    stepsTo (placed 0x0000 [0x20, 0x34, 0x12] |>.writeByte 0x01FE 0xEE |>.writeByte 0x01FF 0xEE)
      (fun t => t |>.setSp 0xFD |>.setPc 0x1234 |>.writeByte 0x01FE 0x00 |>.writeByte 0x01FF 0x03) = true := by decide

/-- 95_test_vectors.md, "JSR at 0xFFFD pushes 0x0000" (R209) -/
theorem test_jsr_at_0xfffd_pushes_0x0000 :
    stepsTo (placed 0xFFFD [0x20, 0x00, 0x10] |>.writeByte 0x01FE 0xEE |>.writeByte 0x01FF 0xEE)
      (fun t => t |>.setSp 0xFD |>.setPc 0x1000 |>.writeByte 0x01FE 0x00 |>.writeByte 0x01FF 0x00) = true := by decide

/-- 95_test_vectors.md, "RTS, source §8 scenario 6" (R210) -/
theorem test_rts_scenario_6 :
    stepsTo (placed 0x1234 [0x60] |>.setSp 0xFD |>.writeByte 0x01FE 0x00 |>.writeByte 0x01FF 0x03)
      (fun t => t |>.setSp 0xFF |>.setPc 0x0003) = true := by decide

/-- 95_test_vectors.md, "RTS at SP = 0xFF wraps" (R210, R204) -/
theorem test_rts_at_sp_0xff_wraps :
    stepsTo (placed 0x0200 [0x60] |>.setSp 0xFF |>.writeByte 0x0100 0x20 |>.writeByte 0x0101 0x30)
      (fun t => t |>.setSp 0x01 |>.setPc 0x2030) = true := by decide

/-- 95_test_vectors.md, "BRK, example of rule R211" (R211) -/
theorem test_brk_example_of_rule_r211 :
    stepsTo (placed 0x0406 [0x00] |>.setP 0x81 |>.writeByte 0xFFFE 0x00 |>.writeByte 0xFFFF 0x05)
      (fun t => t |>.setSp 0xFC |>.setP 0x91 |>.setPc 0x0500 |>.writeByte 0x01FD 0x91 |>.writeByte 0x01FE 0x04
        |>.writeByte 0x01FF 0x07) = true := by decide

/-- 95_test_vectors.md, "BRK with SP = 0x01 straddles the wrap" (R211, R204, R213) -/
theorem test_brk_with_sp_0x01_straddles_the_wrap :
    stepsTo (placed 0x0200 [0x00] |>.setSp 0x01 |>.setP 0x04 |>.writeByte 0xFFFE 0x00 |>.writeByte 0xFFFF 0x80)
      (fun t => t |>.setSp 0xFE |>.setP 0x14 |>.setPc 0x8000 |>.writeByte 0x0100 0x02 |>.writeByte 0x0101 0x01
        |>.writeByte 0x01FF 0x14) = true := by decide

/-- 95_test_vectors.md, "RTI after the BRK of rule R211" (R212) -/
theorem test_rti_after_the_brk_of_rule_r211 :
    stepsTo (placed 0x0500 [0x40] |>.setSp 0xFC |>.setP 0x11 |>.writeByte 0x01FD 0x91 |>.writeByte 0x01FE 0x04
        |>.writeByte 0x01FF 0x07)
      (fun t => t |>.setSp 0xFF |>.setP 0x91 |>.setPc 0x0407) = true := by decide

/-- 95_test_vectors.md, "RTI restores I = 1 and B = 0" (R212) -/
theorem test_rti_restores_i_1_and_b_0 :
    stepsTo (placed 0x0500 [0x40] |>.setSp 0xFC |>.setP 0x10 |>.writeByte 0x01FD 0x04 |>.writeByte 0x01FE 0x20
        |>.writeByte 0x01FF 0x00)
      (fun t => t |>.setSp 0xFF |>.setP 0x04 |>.setPc 0x2000) = true := by decide

/-- 95_test_vectors.md, "BCC taken" (R221) -/
theorem test_bcc_taken :
    stepsTo (placed 0x0300 [0x90, 0x10])
      (fun t => t |>.setPc 0x0312) = true := by decide

/-- 95_test_vectors.md, "BCC not taken" (R221) -/
theorem test_bcc_not_taken :
    stepsTo (placed 0x0300 [0x90, 0x10] |>.setP 0x01)
      (fun t => t |>.setPc 0x0302) = true := by decide

/-- 95_test_vectors.md, "BCS taken backward (source §8 -16)" (R222) -/
theorem test_bcs_taken_backward_minus16 :
    stepsTo (placed 0x0300 [0xB0, 0xF0] |>.setP 0x01)
      (fun t => t |>.setPc 0x02F2) = true := by decide

/-- 95_test_vectors.md, "BCS not taken" (R222) -/
theorem test_bcs_not_taken :
    stepsTo (placed 0x0300 [0xB0, 0xF0])
      (fun t => t |>.setPc 0x0302) = true := by decide

/-- 95_test_vectors.md, "BEQ taken across the top" (R223) -/
theorem test_beq_taken_across_the_top :
    stepsTo (placed 0xFFFE [0xF0, 0x05] |>.setP 0x02)
      (fun t => t |>.setPc 0x0005) = true := by decide

/-- 95_test_vectors.md, "BEQ not taken" (R223) -/
theorem test_beq_not_taken :
    stepsTo (placed 0x0300 [0xF0, 0x05])
      (fun t => t |>.setPc 0x0302) = true := by decide

/-- 95_test_vectors.md, "BNE taken below 0x0000" (R224) -/
theorem test_bne_taken_below_0x0000 :
    stepsTo (placed 0x0000 [0xD0, 0xF0])
      (fun t => t |>.setPc 0xFFF2) = true := by decide

/-- 95_test_vectors.md, "BNE not taken" (R224) -/
theorem test_bne_not_taken :
    stepsTo (placed 0x0300 [0xD0, 0xF0] |>.setP 0x02)
      (fun t => t |>.setPc 0x0302) = true := by decide

/-- 95_test_vectors.md, "BMI taken, +127" (R225) -/
theorem test_bmi_taken_plus127 :
    stepsTo (placed 0x0400 [0x30, 0x7F] |>.setP 0x80)
      (fun t => t |>.setPc 0x0481) = true := by decide

/-- 95_test_vectors.md, "BMI not taken" (R225) -/
theorem test_bmi_not_taken :
    stepsTo (placed 0x0400 [0x30, 0x7F])
      (fun t => t |>.setPc 0x0402) = true := by decide

/-- 95_test_vectors.md, "BPL taken, -128" (R226) -/
theorem test_bpl_taken_minus128 :
    stepsTo (placed 0x0400 [0x10, 0x80])
      (fun t => t |>.setPc 0x0382) = true := by decide

/-- 95_test_vectors.md, "BPL not taken" (R226) -/
theorem test_bpl_not_taken :
    stepsTo (placed 0x0400 [0x10, 0x80] |>.setP 0x80)
      (fun t => t |>.setPc 0x0402) = true := by decide

/-- 95_test_vectors.md, "BVC taken to itself" (R227) -/
theorem test_bvc_taken_to_itself :
    stepsTo (placed 0x0500 [0x50, 0xFE])
      (fun t => t |>.setPc 0x0500) = true := by decide

/-- 95_test_vectors.md, "BVC not taken" (R227) -/
theorem test_bvc_not_taken :
    stepsTo (placed 0x0500 [0x50, 0xFE] |>.setP 0x40)
      (fun t => t |>.setPc 0x0502) = true := by decide

/-- 95_test_vectors.md, "BVS taken, offset 0" (R228) -/
theorem test_bvs_taken_offset_0 :
    stepsTo (placed 0x0500 [0x70, 0x00] |>.setP 0x40)
      (fun t => t |>.setPc 0x0502) = true := by decide

/-- 95_test_vectors.md, "BVS not taken" (R228) -/
theorem test_bvs_not_taken :
    stepsTo (placed 0x0500 [0x70, 0x10])
      (fun t => t |>.setPc 0x0502) = true := by decide

/-- 95_test_vectors.md, "JMP abs" (R235) -/
theorem test_jmp_abs :
    stepsTo (placed 0x0200 [0x4C, 0x00, 0x80])
      (fun t => t |>.setPc 0x8000) = true := by decide

/-- 95_test_vectors.md, "JMP abs to itself" (R235) -/
theorem test_jmp_abs_to_itself :
    stepsTo (placed 0x0200 [0x4C, 0x00, 0x02])
      (fun t => t |>.setPc 0x0200) = true := by decide

/-- 95_test_vectors.md, "JMP ind, pointer at 0x10FF (no page wrap)" (R236) -/
theorem test_jmp_ind_pointer_at_0x10ff_no_page_wrap :
    stepsTo (placed 0x0200 [0x6C, 0xFF, 0x10] |>.writeByte 0x1000 0x56 |>.writeByte 0x10FF 0x34
        |>.writeByte 0x1100 0x12)
      (fun t => t |>.setPc 0x1234) = true := by decide

/-- 95_test_vectors.md, "JMP ind, pointer at 0xFFFF" (R236) -/
theorem test_jmp_ind_pointer_at_0xffff :
    stepsTo (placed 0x0200 [0x6C, 0xFF, 0xFF] |>.writeByte 0x0000 0x56 |>.writeByte 0xFFFF 0x78)
      (fun t => t |>.setPc 0x5678) = true := by decide

/-- 95_test_vectors.md, "CLC" (R240) -/
theorem test_clc :
    stepsTo (placed 0x0200 [0x18] |>.setP 0xDF)
      (fun t => t |>.setP 0xDE |>.setPc 0x0201) = true := by decide

/-- 95_test_vectors.md, "CLD" (R241) -/
theorem test_cld :
    stepsTo (placed 0x0200 [0xD8] |>.setP 0x08)
      (fun t => t |>.setP 0x00 |>.setPc 0x0201) = true := by decide

/-- 95_test_vectors.md, "CLI" (R242) -/
theorem test_cli :
    stepsTo (placed 0x0200 [0x58] |>.setP 0x04)
      (fun t => t |>.setP 0x00 |>.setPc 0x0201) = true := by decide

/-- 95_test_vectors.md, "CLV" (R243) -/
theorem test_clv :
    stepsTo (placed 0x0200 [0xB8] |>.setP 0x40)
      (fun t => t |>.setP 0x00 |>.setPc 0x0201) = true := by decide

/-- 95_test_vectors.md, "SEC" (R244) -/
theorem test_sec :
    stepsTo (placed 0x0200 [0x38])
      (fun t => t |>.setP 0x01 |>.setPc 0x0201) = true := by decide

/-- 95_test_vectors.md, "SED" (R245) -/
theorem test_sed :
    stepsTo (placed 0x0200 [0xF8])
      (fun t => t |>.setP 0x08 |>.setPc 0x0201) = true := by decide

/-- 95_test_vectors.md, "SEI" (R246) -/
theorem test_sei :
    stepsTo (placed 0x0200 [0x78])
      (fun t => t |>.setP 0x04 |>.setPc 0x0201) = true := by decide

/-- 95_test_vectors.md, "NOP" (R247) -/
theorem test_nop :
    stepsTo (placed 0x0200 [0xEA] |>.setA 0x12 |>.setP 0x83)
      (fun t => t |>.setPc 0x0201) = true := by decide

/-- 95_test_vectors.md, "unmapped 0xFF" (R248) -/
theorem test_unmapped_0xff :
    stepsTo (placed 0x0200 [0xFF])
      (fun t => t |>.setPc 0x0201) = true := by decide

/-- 95_test_vectors.md, "unmapped 0x80 does not consume the next byte" (R248) -/
theorem test_unmapped_0x80_does_not_consume_the_next_byte :
    stepsTo (placed 0x0200 [0x80, 0xA9])
      (fun t => t |>.setPc 0x0201) = true := by decide

/-! ### Addressing modes at their boundaries (R106 to R115) -/

/-- The zero-page index wraps in the page; the absolute index wraps at the top of memory. -/
theorem test_effective_addresses_at_the_wrap :
    (State.reset.setX 0x01).effAddr (.zpx 0xFF) = 0x0000 ∧ (State.reset.setX 0xFF).effAddr (.zpx 0xFF) = 0x00FE ∧
    (State.reset.setY 0x01).effAddr (.zpy 0xFF) = 0x0000 ∧ (State.reset.setX 0x01).effAddr (.absx 0xFFFF) = 0x0000 ∧
    (State.reset.setX 0xFF).effAddr (.absx 0x12FF) = 0x13FE ∧ (State.reset.setY 0xFF).effAddr (.absy 0xFF80) = 0x007F := by
  decide
/-- A pointer at 0x00FF has its high byte at 0x0100; one reached by a wrapped index has it at the next address. -/
theorem test_pointer_modes_at_the_wrap :
    ((State.reset.writeBytes 0x00FF [0x34, 0x12]).setX 0xFF).effAddr (.indx 0x00) = 0x1234 ∧
    ((State.reset.writeBytes 0x0000 [0x34, 0x12]).setX 0x01).effAddr (.indx 0xFF) = 0x1234 ∧
    ((State.reset.writeBytes 0x00FF [0xFF, 0xFF]).setY 0x01).effAddr (.indy 0xFF) = 0x0000 := by decide

/-! ### The hypotheses of the statements -/

/-- A state whose memory is canonical, and whose step (STA $3000) answers a next state. -/
theorem witness_step_keeps_memory_canonical :
    (placed 0x0200 [0x8D, 0x00, 0x30] |>.setA 0x55).Inv ∧
    ∃ t, step (placed 0x0200 [0x8D, 0x00, 0x30] |>.setA 0x55) = .next t ∧ t.readByte 0x3000 = 0x55 :=
  ⟨by decide, _, rfl, by decide⟩
/-- Canonical memories at the two ends of the address space. -/
theorem witness_host_writes_keep_memory_canonical :
    (State.reset.writeByte 0xFFFF 0x01).Inv ∧ (State.reset.writeByte 0x0000 0xFF).Inv ∧
    ((State.reset.writeByte 0xFFFF 0x01).hostWrite (.setWord 0xFFFF 0x1234)).Inv := by decide
/-- Bytes that decode, for each length, the longer ones across the top of memory. -/
theorem witness_step_runs_the_decoded_instruction :
    let at3 := fun (s : State) => [s.readByte s.pc, s.readByte (s.pc + 1), s.readByte (s.pc + 2)]
    decodesTo (at3 (placed 0xFFFF [0xE8])) .inx [0x00, 0x00] ∧
    decodesTo (at3 (placed 0xFFFF [0xA9, 0x44])) (.lda (.imm 0x44)) [0x00] ∧
    decodesTo (at3 (placed 0xFFFE [0xAD, 0x34, 0x12])) (.lda (.mem (.abs 0x1234))) [] := by decide
/-- Well-formed instructions at the ends of their operands' ranges. -/
theorem witness_decode_of_encode :
    Instr.wf (.adc (.mem (.indy 0xFF))) ∧ Instr.wf (.ldx (.mem (.zpy 0x00))) ∧ Instr.wf (.sta (.absx 0xFFFF)) ∧
    Instr.wf (.ror .acc) ∧ Instr.wf (.unmapped 0x02) ∧ Instr.wf (.unmapped 0xFF) := by decide
/-- Bytes that decode, with bytes left over. -/
theorem witness_encode_of_decode :
    decodesTo [0x00, 0xFF] .brk [0xFF] ∧ decodesTo [0xFE, 0xFF, 0xFF] (.inc (.absx 0xFFFF)) [] := by decide
/-- The first and the last unmapped byte on both sides, and a mapped byte on neither. -/
theorem witness_unmapped_bytes :
    (decodesTo [0x02] (.unmapped 0x02) [] ∧ (0x02 : Byte) ∈ unmappedOpcodes) ∧
    (decodesTo [0xFF] (.unmapped 0xFF) [] ∧ (0xFF : Byte) ∈ unmappedOpcodes) ∧
    (¬ decodesTo [0xFE, 0x00, 0x00] (.unmapped 0xFE) [] ∧ (0xFE : Byte) ∉ unmappedOpcodes) := by decide
/-- The furthest targets of a branch, across the top of memory and across 0x0000, and the two just out of reach. -/
theorem witness_branch_operand :
    branchOperand 0xFFFE 0x007F = some 0x7F ∧ branchOperand 0x0000 0xFF82 = some 0x80 ∧
    branchOperand 0xFFFE 0x0080 = none ∧ branchOperand 0x0000 0xFF81 = none := by decide
/-- Two canonical memories written in different orders that read alike. -/
theorem witness_equal_reads :
    Memory.wf (Memory.write (Memory.write [] 3 1) 65535 2) = true ∧
    Memory.wf (Memory.write (Memory.write [] 65535 2) 3 1) = true ∧
    ∀ a : Nat, a < 65536 → Memory.read (Memory.write (Memory.write [] 3 1) 65535 2) a =
      Memory.read (Memory.write (Memory.write [] 65535 2) 3 1) a := by
  refine ⟨by decide, by decide, fun a _ => ?_⟩
  rw [show Memory.write (Memory.write [] 3 1) 65535 2 = Memory.write (Memory.write [] 65535 2) 3 1 from by decide]
/-- JSR at SP = 0x00 writes 0x0100 and 0x01FF; the addresses next to the page are of the statement's range. -/
theorem witness_stack_writes :
    Part.sp ∈ writtenParts (.jsr 0x1234) ∧
    (∃ t, exec (.jsr 0x1234) (State.reset.setSp 0x00) = .next t ∧ t.readByte 0x0100 = 0x03 ∧ t.sp = 0xFE) ∧
    ((0x00FF : Word).toNat < 0x0100 ∨ 0x01FF < (0x00FF : Word).toNat) ∧
    ((0x0200 : Word).toNat < 0x0100 ∨ 0x01FF < (0x0200 : Word).toNat) :=
  ⟨by decide, ⟨_, rfl, by decide, by decide⟩, by decide, by decide⟩
/-- A three-byte instruction that is no transfer, with PC at the wrap. -/
theorem witness_other_instructions_move_pc :
    isTransfer (.sta (.abs 0x3000)) = false ∧
    ∃ t, exec (.sta (.abs 0x3000)) (State.reset.setPc 0xFFFE) = .next t ∧ t.pc = 0x0001 :=
  ⟨by decide, _, rfl, by decide⟩
/-- A register that the instruction changes and one that its lists do not name. -/
theorem witness_register_writers :
    (∃ t, exec .inx State.reset = .next t ∧ t.x = 0x01) ∧ Part.x ∈ writtenParts .inx ∧
    Part.y ∈ [Part.a, .x, .y, .sp] ∧ Part.y ∉ writtenParts .inx :=
  ⟨⟨_, rfl, by decide⟩, by decide, by decide, by decide⟩
/-- A flag that the instruction changes and one that its lists do not name. -/
theorem witness_flag_writers :
    (∃ t, exec (.cmp (.imm 0x00)) State.reset = .next t ∧ t.c = true) ∧ Part.c ∈ writtenParts (.cmp (.imm 0x00)) ∧
    Part.v ∈ [Part.n, .v, .b, .d, .i, .z, .c] ∧ Part.v ∉ writtenParts (.cmp (.imm 0x00)) :=
  ⟨⟨_, rfl, by decide⟩, by decide, by decide, by decide⟩
/-- An instruction that writes no memory; STA (zp),Y, whose one address is reached through the pointer, with the bytes next
to it outside; and BRK at SP = 0x01, whose three addresses straddle the wrap of the stack page. -/
theorem witness_memory_writers :
    (Part.mem ∉ writtenParts (.asl .acc) ∧ storedAddrs State.reset (.asl .acc) = [] ∧
      ∃ t, exec (.asl .acc) State.reset = .next t) ∧
    (let s := (State.reset.writeBytes 0x0040 [0xF0, 0x30]).setY 0x10
     storedAddrs s (.sta (.indy 0x40)) = [0x3100] ∧ (0x30FF : Word) ∉ storedAddrs s (.sta (.indy 0x40)) ∧
     (0x3101 : Word) ∉ storedAddrs s (.sta (.indy 0x40)) ∧ ∃ t, exec (.sta (.indy 0x40)) s = .next t) ∧
    (let s := (State.reset.setSp 0x01).setPc 0x0405
     storedAddrs s .brk = [0x0101, 0x0100, 0x01FF] ∧ (0x00FF : Word) ∉ storedAddrs s .brk ∧
     (0x0102 : Word) ∉ storedAddrs s .brk ∧
     ∃ t, exec .brk s = .next t ∧ [t.readByte 0x0101, t.readByte 0x0100, t.readByte 0x01FF] = [0x06, 0x04, 0x10]) :=
  ⟨⟨by decide, by decide, _, rfl⟩, ⟨by decide, by decide, by decide, _, rfl⟩,
   by decide, by decide, by decide, _, rfl, by decide⟩
/-- An instruction other than PHP and BRK that answers a next state. -/
theorem witness_inert_flags :
    Instr.adc (.imm 0x01) ≠ .php ∧ Instr.adc (.imm 0x01) ≠ .brk ∧
    ∃ t, exec (.adc (.imm 0x01)) (State.reset.setA 0x09) = .next t ∧ t.a = 0x0A :=
  ⟨by decide, by decide, _, rfl, by decide⟩
/-- A is a one-byte instruction's opcode: INX, and an unmapped byte. -/
theorem witness_stored_opcode :
    decodesTo [(State.reset.setA 0xE8).a] .inx [] ∧ decodesTo [(State.reset.setA 0xFF).a] (.unmapped 0xFF) [] := by decide
/-- Two bytes loaded at 0xFFFF: the second falls on 0x0000, and 0x0001 is hit by neither. -/
theorem witness_load_program :
    [0x11, 0x22][1]? = some 0x22 ∧ ((0xFFFF : Word).toNat + 1) % 65536 = (0x0000 : Word).toNat ∧
    (∀ j, 1 < j → j < 2 → ((0xFFFF : Word).toNat + j) % 65536 ≠ (0x0000 : Word).toNat) ∧
    (∀ k, k < 2 → ((0xFFFF : Word).toNat + k) % 65536 ≠ (0x0001 : Word).toNat) ∧
    (State.reset.hostWrite (.loadProgram [0x11, 0x22] 0xFFFF)).readByte 0x0000 = 0x22 := by
  refine ⟨rfl, by decide, fun j h1 h2 => ?_, by decide, by decide⟩
  omega
/-- A jump and a branch to itself, for the smallest bound. -/
theorem witness_transfers_to_themselves_jump_branch :
    (placed 0x0300 [0x4C, 0x00, 0x03]).fetchInstr = .jmpAbs (placed 0x0300 [0x4C, 0x00, 0x03]).pc ∧
    runEnd 1 (placed 0x0300 [0x4C, 0x00, 0x03]) = some (0, placed 0x0300 [0x4C, 0x00, 0x03]) ∧
    (placed 0xFFFF [0x90, 0xFE]).fetchInstr = .bcc 0xFE ∧ (placed 0xFFFF [0x90, 0xFE]).c = false ∧
    (placed 0x0300 [0x70, 0xFE] |>.setV true).fetchInstr = .bvs 0xFE ∧
    (placed 0x0300 [0x70, 0xFE] |>.setV true).v = true := by decide
/-- JMP indirect, JSR and BRK to their own address. -/
theorem witness_transfers_to_themselves_other :
    (placed 0x0300 [0x6C, 0x03, 0x03, 0x00, 0x03]).fetchInstr = .jmpInd 0x0303 ∧
    (placed 0x0300 [0x6C, 0x03, 0x03, 0x00, 0x03]).readWord 0x0303 = 0x0300 ∧
    (placed 0x0300 [0x20, 0x00, 0x03]).fetchInstr = .jsr 0x0300 ∧
    State.reset.fetchInstr = .brk ∧ State.reset.readWord Config.irqVector = State.reset.pc := by decide

end Sys2Proof.Tests
end

section
/-! The memory invariant along the host's writes (spec/70_reset_and_hazards.md R294, R296) and at launch (R6). -/

namespace Sys2Proof.Machine

theorem State.reset_inv : State.reset.Inv := rfl

/-- Only the three writes to memory have anything to keep: a register or status setter leaves memory as it is. -/
theorem State.hostWrite_inv {s : State} (h : HostWrite) (hs : s.Inv) : (s.hostWrite h).Inv := by
  cases h with
  | loadProgram bytes addr => exact State.writeBytes_wf addr bytes hs
  | setByte a v => exact State.writeByte_wf a v hs
  | setWord a w => exact State.writeByte_wf (a + 1) (highByte w) (State.writeByte_wf a (lowByte w) hs)
  | setA | setX | setY | setSp | setPc | setStatus => exact hs

/-- Stated from any canonical state, not reset alone, so that the induction goes through the first write. -/
theorem State.foldl_hostWrite_inv {s : State} (writes : List HostWrite) (hs : s.Inv) :
    (writes.foldl State.hostWrite s).Inv := by
  induction writes generalizing s with
  | nil => exact hs
  | cons h rest ih => exact ih (State.hostWrite_inv h hs)

/-- Settles O4: one host write by cases on the write, the launch state by induction on the list of writes. -/
theorem hostWritesKeepMemoryCanonical : Obligations.HostWritesKeepMemoryCanonical :=
  ⟨fun _ h hs => State.hostWrite_inv h hs, fun writes => State.foldl_hostWrite_inv writes State.reset_inv⟩

end Sys2Proof.Machine
end

section
/-! Frames: what each shared operation leaves unchanged, and from these what every instruction leaves unchanged
(spec/10_state.md R21 to R35). -/

namespace Sys2Proof.Machine

/-! ### The frame relation -/

theorem Part.Same.trans {p : Part} {s t u : State} (h : p.Same s t) (h' : p.Same t u) : p.Same s u := by
  cases p
  case mem => exact fun w => (h' w).trans (h w)
  all_goals exact Eq.trans h' h

theorem ChangesOnly.trans {ps qs : List Part} {s t u : State} (h : ChangesOnly ps s t) (h' : ChangesOnly qs t u) :
    ChangesOnly (ps ++ qs) s u := by
  intro p hp
  rw [List.mem_append, not_or] at hp
  exact (h p hp.1).trans (h' p hp.2)

theorem ChangesOnly.mono {ps qs : List Part} {s t : State} (h : ChangesOnly ps s t) (hsub : ps ⊆ qs) :
    ChangesOnly qs s t :=
  fun p hp => h p fun hmem => hp (hsub hmem)

/-- `exec` answers one state, so what a completion says of some next state holds of the given one. -/
theorem Completes.of_exec {i : Instr} {s t : State} {Q : State → Prop} (hc : Completes i s Q)
    (h : exec i s = .next t) : Q t := by
  obtain ⟨u, hu, hQ⟩ := hc
  rw [hu] at h
  cases h
  exact hQ

/-! ### The shared operations -/

variable (s : State)

theorem State.advance_changesOnly (k : Nat) : ChangesOnly [.pc] s (s.advance k) := by
  simp [changesOnly_iff]

theorem State.addToA_changesOnly (m : Byte) : ChangesOnly [.a, .n, .v, .z, .c] s (s.addToA m) := by
  simp [changesOnly_iff, State.addToA]

theorem State.loadA_changesOnly (u : Byte) : ChangesOnly [.a, .n, .z] s (s.loadA u) := by
  simp [changesOnly_iff, State.loadA]

theorem State.compare_changesOnly (r m : Byte) : ChangesOnly [.n, .z, .c] s (s.compare r m) := by
  simp [changesOnly_iff]

theorem State.writeByte_changesOnly (a : Word) (u : Byte) : ChangesOnly [.mem] s (s.writeByte a u) := by
  simp [changesOnly_iff]

theorem State.writeBack_changesOnly (ea : Word) (r : Byte) : ChangesOnly [.mem, .n, .z] s (s.writeBack ea r) := by
  simp [changesOnly_iff, State.writeBack]

theorem State.shift_changesOnly (o : ShiftOperand) (f : Byte → Bool → Byte × Bool) :
    ChangesOnly [shiftPart o, .n, .z, .c] s (s.shift o f) := by
  cases o with
  | acc => simp [changesOnly_iff, shiftPart, State.shift_acc]
  | mem m => simp [changesOnly_iff, shiftPart, State.shift_mem]

theorem State.push_changesOnly (u : Byte) : ChangesOnly [.mem, .sp] s (s.push u) := by
  simp [changesOnly_iff]

theorem State.branch_changesOnly (cond : Bool) (off : Byte) : ChangesOnly [.pc] s (s.branch cond off) := by
  simp [changesOnly_iff, State.branch_eq]

theorem State.setPc_changesOnly (w : Word) : ChangesOnly [.pc] s (s.setPc w) := by
  simp [changesOnly_iff]

theorem State.setNZ_changesOnly (u : Byte) : ChangesOnly [.n, .z] s (s.setNZ u) := by
  simp [changesOnly_iff]

theorem State.enterTrap_changesOnly : ChangesOnly [.mem, .sp, .pc, .b] s s.enterTrap := by
  simp [changesOnly_iff, State.enterTrap_eq]

theorem State.returnFromTrap_changesOnly :
    ChangesOnly [.sp, .pc, .n, .v, .b, .d, .i, .z, .c] s s.returnFromTrap := by
  simp [changesOnly_iff, State.returnFromTrap_eq]

/-! ### Every instruction -/

/-- What an instruction may write besides moving PC past its own bytes. -/
def effectParts (i : Instr) : List Part := (writtenParts i).filter (· ≠ .pc)

/-- An instruction that is no transfer of control moves PC past its bytes, and then writes PC no more. -/
theorem exec_changesOnly_advance {i : Instr} (hi : isTransfer i = false) :
    Completes i s (ChangesOnly (effectParts i) (s.advance (instrLength i))) := by
  cases i with
  | adc o | sbc o => exact ⟨_, rfl, State.addToA_changesOnly _ _⟩
  | cmp o | cpx o | cpy o => exact ⟨_, rfl, State.compare_changesOnly _ _ _⟩
  | inc m | dec m => exact ⟨_, rfl, State.writeBack_changesOnly _ _ _⟩
  | sta m | stx m | sty m => exact ⟨_, rfl, State.writeByte_changesOnly _ _ _⟩
  | asl o | lsr o | rol o | ror o => cases o <;> exact ⟨_, rfl, State.shift_changesOnly _ _ _⟩
  | and o | ora o | eor o | lda o | txa | tya => exact ⟨_, rfl, State.loadA_changesOnly _ _⟩
  | pha | php => exact ⟨_, rfl, State.push_changesOnly _ _⟩
  | ldx | ldy | bit | tax | tay | tsx | txs | inx | iny | dex | dey | pla | plp | clc | sec | cld | sed | cli | sei
  | clv | nop | unmapped =>
    exact ⟨_, rfl, by simp [changesOnly_iff, effectParts, writtenParts, instrLength]⟩
  | jsr | rts | brk | rti | bcc | bcs | beq | bne | bmi | bpl | bvc | bvs | jmpAbs | jmpInd => cases hi

/-- A transfer of control may write PC last, so its frame is stated from the state it began in. -/
theorem exec_transfer_changesOnly {i : Instr} (hi : isTransfer i = true) :
    Completes i s (ChangesOnly (writtenParts i) s) := by
  cases i with
  | jsr target => exact ⟨_, exec_jsr s target, by simp [changesOnly_iff, writtenParts]⟩
  | rts => exact ⟨_, exec_rts s, by simp [changesOnly_iff, writtenParts]⟩
  | brk =>
    exact ⟨_, exec_brk s, ((s.advance_changesOnly 1).trans (State.enterTrap_changesOnly _)).mono (by decide)⟩
  | rti => exact ⟨_, exec_rti s, s.returnFromTrap_changesOnly⟩
  | bcc off | bcs off | beq off | bne off | bmi off | bpl off | bvc off | bvs off =>
    exact ⟨_, rfl, s.branch_changesOnly _ off⟩
  | jmpAbs w | jmpInd w => exact ⟨_, rfl, s.setPc_changesOnly _⟩
  | _ => cases hi

theorem pc_mem_writtenParts (i : Instr) : Part.pc ∈ writtenParts i := by
  cases i <;> simp [writtenParts]

/-- The frame of every instruction: what its "Written by" lists do not name is as before. -/
theorem exec_changesOnly {i : Instr} {s t : State} (h : exec i s = .next t) :
    ChangesOnly (writtenParts i) s t := by
  cases hi : isTransfer i with
  | true => exact (exec_transfer_changesOnly s hi).of_exec h
  | false =>
    have hframe := (s.advance_changesOnly (instrLength i)).trans ((exec_changesOnly_advance s hi).of_exec h)
    exact hframe.mono (List.cons_subset.2 ⟨pc_mem_writtenParts i, List.filter_sublist.subset⟩)

/-- Settles O51: the effect of an instruction that is no transfer does not touch the PC that `advance` has moved. -/
theorem otherInstructionsMovePcPastTheirBytes : Obligations.OtherInstructionsMovePcPastTheirBytes := by
  intro i s t hi h
  have hpc : Part.pc ∉ effectParts i := by simp [effectParts]
  exact pcPast_of ((exec_changesOnly_advance s hi).of_exec h .pc hpc)

/-- Settles O52: the frame of every instruction, read at a register. -/
theorem registersHaveOnlyTheirWriters : Obligations.RegistersHaveOnlyTheirWriters :=
  fun _ _ _ h p _ hp => exec_changesOnly h p hp

/-- Settles O53: the frame of every instruction, read at a flag. -/
theorem flagsHaveOnlyTheirWriters : Obligations.FlagsHaveOnlyTheirWriters :=
  fun _ _ _ h p _ hp => exec_changesOnly h p hp

end Sys2Proof.Machine
end

section
/-! The memory invariant along a step (spec/10_state.md R39, spec/20_memory.md R52). -/

namespace Sys2Proof.Machine

theorem State.shift_inv {s : State} (o : ShiftOperand) (f : Byte → Bool → Byte × Bool) (hs : s.Inv) :
    (s.shift o f).Inv := by
  cases o with
  | acc => exact hs
  | mem m => exact State.writeByte_wf _ _ hs

theorem State.branch_inv {s : State} (cond : Bool) (off : Byte) (hs : s.Inv) : (s.branch cond off).Inv := by
  rw [State.branch_eq]
  exact hs

theorem State.enterTrap_inv {s : State} (hs : s.Inv) : s.enterTrap.Inv := by
  rw [State.enterTrap_eq]
  exact State.push_wf _ (State.pushWord_wf (s := s.setB true) _ hs)

/-- An instruction stores through `writeByte` or the pushes, or leaves memory as it is. -/
theorem exec_inv {s : State} (i : Instr) (hs : s.Inv) : Completes i s State.Inv := by
  cases i with
  | sta m | stx m | sty m | inc m | dec m => exact ⟨_, rfl, State.writeByte_wf _ _ hs⟩
  | asl o | lsr o | rol o | ror o => exact ⟨_, rfl, State.shift_inv o _ hs⟩
  | pha | php => exact ⟨_, rfl, State.push_wf _ hs⟩
  | jsr target => exact ⟨_, rfl, State.pushWord_wf _ hs⟩
  | brk => exact ⟨_, rfl, State.enterTrap_inv hs⟩
  | bcc off | bcs off | beq off | bne off | bmi off | bpl off | bvc off | bvs off =>
    exact ⟨_, rfl, State.branch_inv _ off hs⟩
  | _ => exact ⟨_, rfl, hs⟩

/-- Settles O3: the step is `exec` of the fetched instruction, and every instruction keeps the canonical form. -/
theorem stepKeepsMemoryCanonical : Obligations.StepKeepsMemoryCanonical :=
  fun s _ hs h => (exec_inv s.fetchInstr hs).of_exec h

/-! ### A canonical memory is determined by its reads -/

theorem Memory.read_eq_zero_of_lt {m : Memory} {lo a : Nat} (hm : Memory.wfFrom lo m = true) (ha : a < lo) :
    Memory.read m a = 0 := by
  induction m generalizing lo with
  | nil => rfl
  | cons c rest ih =>
    obtain ⟨k, w⟩ := c
    obtain ⟨hlo, -, -, hrest⟩ := (Memory.wfFrom_cons ..).1 hm
    rw [Memory.read_cons, if_neg (by omega)]
    exact ih hrest (by omega)

/-- A canonical list does not begin after an address that it reads as another byte than 0x00. -/
theorem Memory.le_of_read_ne_zero {m : Memory} {lo a : Nat} (hm : Memory.wfFrom lo m = true)
    (ha : Memory.read m a ≠ 0) : lo ≤ a :=
  Nat.le_of_not_lt fun h => ha (Memory.read_eq_zero_of_lt hm h)

theorem Memory.wfFrom_head {lo k : Nat} {w : Byte} {m : Memory} (h : Memory.wfFrom lo ((k, w) :: m) = true) :
    Memory.wfFrom k ((k, w) :: m) = true := by
  rw [Memory.wfFrom_cons] at h ⊢
  exact ⟨Nat.le_refl k, h.2⟩

theorem Memory.read_head (k : Nat) (w : Byte) (m : Memory) : Memory.read ((k, w) :: m) k = w := if_pos rfl

/-- The first cells agree, since neither list can read a byte other than 0x00 before its own first cell; with them gone,
both lists read 0x00 at that address, so the rests read alike too. -/
theorem Memory.wfFrom_ext {m m' : Memory} {lo lo' : Nat} (hm : Memory.wfFrom lo m = true)
    (hm' : Memory.wfFrom lo' m' = true) (hread : ∀ a < 65536, Memory.read m a = Memory.read m' a) : m = m' := by
  induction m generalizing lo lo' m' with
  | nil =>
    cases m' with
    | nil => rfl
    | cons c' rest' =>
      obtain ⟨k', w'⟩ := c'
      obtain ⟨-, hk', hw', -⟩ := (Memory.wfFrom_cons ..).1 hm'
      exact absurd ((hread k' hk').trans (Memory.read_head ..)) hw'.symm
  | cons c rest ih =>
    obtain ⟨k, w⟩ := c
    obtain ⟨-, hk, hw, hrest⟩ := (Memory.wfFrom_cons ..).1 hm
    have hreadk := (hread k hk).symm.trans (Memory.read_head ..)
    cases m' with
    | nil => exact absurd hreadk hw.symm
    | cons c' rest' =>
      obtain ⟨k', w'⟩ := c'
      obtain ⟨-, hk', hw', hrest'⟩ := (Memory.wfFrom_cons ..).1 hm'
      have hle' : k' ≤ k := Memory.le_of_read_ne_zero (Memory.wfFrom_head hm') (hreadk ▸ hw)
      have hreadk' := (hread k' hk').trans (Memory.read_head ..)
      have hle : k ≤ k' := Memory.le_of_read_ne_zero (Memory.wfFrom_head hm) (hreadk' ▸ hw')
      obtain rfl : k = k' := Nat.le_antisymm hle hle'
      obtain rfl : w = w' := (Memory.read_head ..).symm.trans hreadk'
      have hreadrest : ∀ a < 65536, Memory.read rest a = Memory.read rest' a := by
        intro a ha
        by_cases hak : k = a
        · rw [Memory.read_eq_zero_of_lt hrest (by omega), Memory.read_eq_zero_of_lt hrest' (by omega)]
        · simpa [Memory.read_cons, hak] using hread a ha
      rw [ih hrest hrest' hreadrest]

/-- Settles O15: extensionality of canonical lists, by induction on the list. -/
theorem equalReadsMeanEqualMemories : Obligations.EqualReadsMeanEqualMemories :=
  fun _ _ hm hm' hread => Memory.wfFrom_ext hm hm' hread

end Sys2Proof.Machine
end

section
/-! The pushes and pulls of a byte (spec/45_stack_subroutine_interrupt.md R200, R201, R205 to R208). -/

namespace Sys2Proof.Machine

/-- The stack address of an offset, as R24 writes it. -/
theorem ofNat_add_sp_eq_stackAddr (sp : Byte) : BitVec.ofNat 16 (0x0100 + sp.toNat) = stackAddr sp :=
  BitVec.eq_of_toNat_eq (by have := sp.isLt; rw [stackAddr_toNat, BitVec.toNat_ofNat]; omega)

/-- The status byte as the sum of its bits (R26). -/
theorem State.p_eq_ofNat (s : State) :
    s.p = BitVec.ofNat 8 (s.n.toNat * 128 + s.v.toNat * 64 + s.b.toNat * 16 + s.d.toNat * 8 + s.i.toNat * 4 +
      s.z.toNat * 2 + s.c.toNat) := by
  have hbits : ∀ n v b d i z c : Bool,
      packP n v b d i z c = BitVec.ofNat 8 (n.toNat * 128 + v.toNat * 64 + b.toNat * 16 + d.toNat * 8 + i.toNat * 4 +
        z.toNat * 2 + c.toNat) := by decide
  exact hbits ..

/-- A one-byte instruction that pushes `u`. -/
theorem State.advance_push_spec (s : State) (u : Byte) :
    StoresByte (stackAddr s.sp) u s ((s.advance 1).push u) ∧
    ((s.advance 1).push u).sp.toNat = (s.sp.toNat + 255) % 256 ∧ PcPast 1 s ((s.advance 1).push u) ∧
    ChangesOnly [.mem, .sp, .pc] s ((s.advance 1).push u) := by
  refine ⟨storesByte_of rfl, ?_, pcPast_of rfl, by simp [changesOnly_iff]⟩
  rw [State.push_sp, State.advance_sp]
  bv_omega

/-- Settles O36: both pushes are `advance 1` and `push`, at the slot and with the byte as the spec's sums write them. -/
theorem pushesWriteAtTheStackAddress : Obligations.PushesWriteAtTheStackAddress := by
  intro s
  rw [ofNat_add_sp_eq_stackAddr]
  refine ⟨⟨_, exec_pha s, s.advance_push_spec s.a⟩, _, exec_php s, ?_⟩
  dsimp only
  rw [← s.p_eq_ofNat]
  exact s.advance_push_spec s.p

/-- Settles O37: the slot is that of SP + 1; each field of the next state is then the one the statement names. -/
theorem pullsReadAtTheStackAddress : Obligations.PullsReadAtTheStackAddress := by
  intro s
  have hsp : (s.sp + 1).toNat = (s.sp.toNat + 1) % 256 := BitVec.toNat_add ..
  rw [← hsp, ofNat_add_sp_eq_stackAddr]
  constructor
  · exact ⟨_, exec_pla s, rfl, reflectsNZ_of rfl rfl, rfl, pcPast_of rfl, by simp [changesOnly_iff]⟩
  · exact ⟨_, exec_plp s, rfl, rfl, rfl, rfl, rfl, rfl, rfl, rfl, pcPast_of rfl, by simp [changesOnly_iff]⟩

end Sys2Proof.Machine
end

section
/-! D and I as inert flags (spec/10_state.md R31, R32): no operand, no condition and no adder reads them. -/

namespace Sys2Proof.Machine

variable (s : State)

@[simp] theorem State.setD_effAddr (f : Bool) (m : MemMode) : (s.setD f).effAddr m = s.effAddr m := by
  cases m <;> rfl

@[simp] theorem State.setI_effAddr (f : Bool) (m : MemMode) : (s.setI f).effAddr m = s.effAddr m := by
  cases m <;> rfl

@[simp] theorem State.setD_operand (f : Bool) (o : Operand) : (s.setD f).operand o = s.operand o := by
  cases o with
  | imm nn => rfl
  | mem m => exact congrArg s.readByte (s.setD_effAddr f m)

@[simp] theorem State.setI_operand (f : Bool) (o : Operand) : (s.setI f).operand o = s.operand o := by
  cases o with
  | imm nn => rfl
  | mem m => exact congrArg s.readByte (s.setI_effAddr f m)

theorem State.shift_setD_setI (d' i' : Bool) (o : ShiftOperand) (f : Byte → Bool → Byte × Bool) :
    ((s.setD d').setI i').shift o f = ((s.shift o f).setD d').setI i' := by
  cases o with
  | acc => rfl
  | mem m =>
    simp only [State.shift_mem, State.setD_effAddr, State.setI_effAddr]
    rfl

theorem State.branch_setD_setI (d' i' cond : Bool) (off : Byte) :
    ((s.setD d').setI i').branch cond off = ((s.branch cond off).setD d').setI i' := by
  simp only [State.branch_eq]
  rfl

/-- An instruction but PHP and BRK does the same from a state with other D and I, which it leaves, sets or pulls. -/
theorem exec_setD_setI {i : Instr} (d' i' : Bool) (hphp : i ≠ .php) (hbrk : i ≠ .brk) :
    Completes i s fun t => ∃ d'' i'', exec i ((s.setD d').setI i') = .next ((t.setD d'').setI i'') := by
  cases i with
  | php => exact absurd rfl hphp
  | brk => exact absurd rfl hbrk
  | cld | sed => exact ⟨_, rfl, _, i', rfl⟩
  | cli | sei => exact ⟨_, rfl, d', _, rfl⟩
  | plp | rti => exact ⟨_, rfl, _, _, rfl⟩
  | adc o | sbc o | and o | ora o | eor o | cmp o | cpx o | cpy o | lda o | ldx o | ldy o =>
    refine ⟨_, rfl, d', i', ?_⟩
    simp only [exec_adc, exec_sbc, exec_and, exec_ora, exec_eor, exec_cmp, exec_cpx, exec_cpy, exec_lda, exec_ldx,
      exec_ldy, State.setD_operand, State.setI_operand, State.advance_operand]
    rfl
  | inc m | dec m | bit m | sta m | stx m | sty m =>
    refine ⟨_, rfl, d', i', ?_⟩
    simp only [exec_inc, exec_dec, exec_bit, exec_sta, exec_stx, exec_sty, State.setD_effAddr, State.setI_effAddr,
      State.advance_effAddr]
    rfl
  | asl o | lsr o | rol o | ror o =>
    exact ⟨_, rfl, d', i', congrArg Host.Outcome.next ((s.advance (1 + shiftSize o)).shift_setD_setI d' i' o _)⟩
  | bcc off | bcs off | beq off | bne off | bmi off | bpl off | bvc off | bvs off =>
    exact ⟨_, rfl, d', i', congrArg Host.Outcome.next (s.branch_setD_setI d' i' _ off)⟩
  | _ => exact ⟨_, rfl, d', i', rfl⟩

/-- Settles O55: the two next states are one state under two settings of D and I. -/
theorem decimalAndInterruptFlagsAreInert : Obligations.DecimalAndInterruptFlagsAreInert := by
  intro i s t d' i' hphp hbrk h
  obtain ⟨d'', i'', h'⟩ := (exec_setD_setI s d' i' hphp hbrk).of_exec h
  exact ⟨_, h', by simp [changesOnly_iff]⟩

end Sys2Proof.Machine
end

section
/-! Reset and SetNZ (spec/10_state.md R36, R41). -/

namespace Sys2Proof.Machine

/-- Settles O1: each element is read off the reset state; memory has no cell, so every address reads 0x00. -/
theorem resetLeavesTheStatedValues : Obligations.ResetLeavesTheStatedValues :=
  ⟨rfl, rfl, rfl, rfl, rfl, rfl, rfl, rfl, rfl, rfl, rfl, rfl, rfl, fun _ => rfl, rfl, rfl, rfl⟩

/-- Settles O2: the empty list of cells is canonical. -/
theorem resetMemoryIsCanonical : Obligations.ResetMemoryIsCanonical := State.reset_inv

/-- Settles O60: the two flags by `reflectsNZ_of`, the rest by SetNZ's frame. -/
theorem setNZWritesItsTwoFlags : Obligations.SetNZWritesItsTwoFlags :=
  fun s u => ⟨reflectsNZ_of rfl rfl, s.setNZ_changesOnly u⟩

end Sys2Proof.Machine
end

section
/-! Memory as its readers see it: the access primitives, the effective addresses, and which bytes an instruction leaves as
they were (spec/20_memory.md R52 to R58, R66; spec/40_dispatch_addressing.md R105 to R111, R118). -/

namespace Sys2Proof.Machine

variable (s : State)

/-! ### The bytes that are not stored to -/

/-- Every byte reads as before, but perhaps those at the listed addresses (R54). -/
def KeepsOutside (addrs : List Word) (s t : State) : Prop := ∀ w : Word, w ∉ addrs → t.readByte w = s.readByte w

theorem KeepsOutside.trans {as bs : List Word} {s t u : State} (h : KeepsOutside as s t) (h' : KeepsOutside bs t u) :
    KeepsOutside (as ++ bs) s u := by
  intro w hw
  rw [List.mem_append, not_or] at hw
  exact (h' w hw.2).trans (h w hw.1)

theorem State.writeByte_keepsOutside (a : Word) (u : Byte) : KeepsOutside [a] s (s.writeByte a u) :=
  fun _ hw => s.readByte_writeByte_ne u (List.ne_of_not_mem_cons hw)

theorem State.push_keepsOutside (u : Byte) : KeepsOutside [stackAddr s.sp] s (s.push u) :=
  s.writeByte_keepsOutside (stackAddr s.sp) u

theorem State.pushWord_keepsOutside (w : Word) :
    KeepsOutside [stackAddr s.sp, stackAddr (s.sp - 1)] s (s.pushWord w) :=
  (s.push_keepsOutside (lowByte w)).trans ((s.push (lowByte w)).push_keepsOutside (highByte w))

/-- Trap entry stores by its three pushes alone: B and PC are no memory. -/
theorem State.enterTrap_keepsOutside :
    KeepsOutside [stackAddr s.sp, stackAddr (s.sp - 1), stackAddr (s.sp - 1 - 1)] s s.enterTrap :=
  s.enterTrap_eq ▸ ((s.setB true).pushWord_keepsOutside s.pc).trans
    (((s.setB true).pushWord s.pc).push_keepsOutside (s.setB true).p)

/-- A store to the effective address, which the meanings resolve after moving PC (R104). -/
theorem State.advance_writeByte_keepsOutside (k : Nat) (m : MemMode) (u : Byte) :
    KeepsOutside [s.effAddr m] s ((s.advance k).writeByte ((s.advance k).effAddr m) u) := by
  rw [State.advance_effAddr]
  exact (s.advance k).writeByte_keepsOutside (s.effAddr m) u

/-- The instructions that write memory: stores and read-modify-writes at their effective address, and the pushes. -/
theorem exec_memoryWriter_keepsOutside {i : Instr} (hi : Part.mem ∈ writtenParts i) :
    Completes i s (KeepsOutside (storedAddrs s i) s) := by
  cases i with
  | sta m | stx m | sty m | inc m | dec m => exact ⟨_, rfl, s.advance_writeByte_keepsOutside _ m _⟩
  | asl o | lsr o | rol o | ror o =>
    cases o with
    | acc => exact absurd hi (by decide)
    | mem m => exact ⟨_, rfl, s.advance_writeByte_keepsOutside _ m _⟩
  | pha | php => exact ⟨_, rfl, (s.advance 1).push_keepsOutside _⟩
  | jsr target => exact ⟨_, rfl, (s.advance 3).pushWord_keepsOutside _⟩
  | brk => exact ⟨_, rfl, (s.advance 1).enterTrap_keepsOutside⟩
  | _ => simp [writtenParts] at hi

theorem storedAddrs_length_le (i : Instr) : (storedAddrs s i).length ≤ 3 := by
  cases i with
  | asl o | lsr o | rol o | ror o => cases o <;> simp [storedAddrs]
  | _ => simp [storedAddrs]

/-- Settles O54: the frame of an instruction that does not list memory keeps every byte; a writer keeps all but those it
stores to. -/
theorem memoryHasOnlyItsWriters : Obligations.MemoryHasOnlyItsWriters := by
  intro i s t h
  refine ⟨exec_changesOnly h .mem, ?_, storedAddrs_length_le s i⟩
  by_cases hi : Part.mem ∈ writtenParts i
  · exact (exec_memoryWriter_keepsOutside s hi).of_exec h
  · exact fun w _ => exec_changesOnly h .mem hi w

/-! ### A store seen by the next fetch -/

/-- A byte that decodes with no byte after it has a one-byte entry in the table. -/
theorem templateOf_of_decode_singleton {op : Byte} {i : Instr} (h : decode [op] = .ok (i, [])) :
    templateOf op = .bytes1 i := by
  rw [decode_cons] at h
  cases ht : templateOf op with
  | bytes1 j =>
    rw [ht] at h
    cases h
    rfl
  | bytes2 f | bytes3 f =>
    rw [ht] at h
    cases h

/-- Settles O56: after the store, the byte at PC is A, and the fetch goes by its one-byte entry. -/
theorem storedOpcodeIsFetchedNext : Obligations.StoredOpcodeIsFetchedNext := by
  intro s i hdec
  refine ⟨(s.advance 3).writeByte (s.pc + 3) s.a, exec_sta s (.abs (s.pc + 3)), ?_⟩
  have hfetched : ((s.advance 3).writeByte (s.pc + 3) s.a).readByte (s.pc + 3) = s.a :=
    State.readByte_writeByte_same ..
  have hentry := (congrArg templateOf hfetched).trans (templateOf_of_decode_singleton hdec)
  dsimp only
  rw [step_eq_exec, fetchInstr_bytes1 hentry]

/-! ### The access primitives -/

/-- Settles O13: the law of a byte write, its frame, and the empty memory of reset. -/
theorem byteReadGivesTheLastWrite : Obligations.ByteReadGivesTheLastWrite :=
  ⟨fun s a u => ⟨storesByte_of rfl, s.writeByte_changesOnly a u⟩, fun _ => rfl⟩

/-- The next address, as R51 writes it. -/
theorem ofNat_succ_mod_eq_add_one (a : Word) : BitVec.ofNat 16 ((a.toNat + 1) % 65536) = a + 1 := by bv_omega

/-- Settles O14: the word is put together from its two bytes, the second at the next address. -/
theorem wordReadIsLittleEndian : Obligations.WordReadIsLittleEndian := by
  intro s a
  rw [ofNat_succ_mod_eq_add_one]
  exact hiLo_toNat ..

/-! ### Effective addresses -/

/-- A zero-page operand and its index: the sum wraps in the page before it is an address (R107, R108). -/
theorem zext16_add_toNat (u v : Byte) : (zext16 (u + v)).toNat = (u.toNat + v.toNat) % 256 := by
  rw [zext16_toNat, BitVec.toNat_add]

/-- An absolute address and its index: the sum wraps at the top of memory (R110, R111). -/
theorem add_zext16_toNat (w : Word) (u : Byte) : (w + zext16 u).toNat = (w.toNat + u.toNat) % 65536 := by
  rw [BitVec.toNat_add, zext16_toNat]

/-- Settles O16: mode by mode, the operand itself or its sum with the index. -/
theorem effectiveAddressesWrap : Obligations.EffectiveAddressesWrap := by
  intro s nn w m
  exact ⟨⟨zext16_toNat nn, rfl⟩, ⟨zext16_add_toNat nn s.x, rfl⟩, ⟨zext16_add_toNat nn s.y, rfl⟩, ⟨rfl, rfl⟩,
    ⟨add_zext16_toNat w s.x, rfl⟩, ⟨add_zext16_toNat w s.y, rfl⟩, ⟨rfl, rfl⟩, ⟨rfl, rfl⟩⟩

end Sys2Proof.Machine
end

section
/-! The decoder and the encoder, tied by one relation: what a cell of the dispatch table reads from its operand bytes
(spec/30_encoding.md R80 to R89). -/

namespace Sys2Proof

open Machine

/-! ### What a cell of the table reads -/

/-- The table entry, given exactly these operand bytes, is the instruction (R80, R85). -/
inductive Template.Reads : Template → Instr → List Byte → Prop where
  | bytes1 {i : Instr} : Reads (.bytes1 i) i []
  | bytes2 {f : Byte → Instr} {nn : Byte} : Reads (.bytes2 f) (f nn) [nn]
  | bytes3 {f : Word → Instr} {w : Word} : Reads (.bytes3 f) (f w) (wordBytes w)

theorem Template.Reads.length_eq {t : Template} {i : Instr} {operands : List Byte} (h : t.Reads i operands) :
    operands.length + 1 = t.length := by
  cases h <;> rfl

theorem wordBytes_hiLo (hi lo : Byte) : wordBytes (hiLo hi lo) = [lo, hi] := by
  simp [wordBytes]

theorem Template.length_le (t : Template) : t.length ≤ 3 := by
  cases t <;> simp [Template.length]

/-- Two bytes are enough for every entry. -/
theorem Template.exists_reads (t : Template) (b1 b2 : Byte) (rest : List Byte) :
    ∃ i operands tail, t.Reads i operands ∧ b1 :: b2 :: rest = operands ++ tail := by
  cases t with
  | bytes1 i => exact ⟨i, [], b1 :: b2 :: rest, .bytes1, rfl⟩
  | bytes2 f => exact ⟨f b1, [b1], b2 :: rest, .bytes2, rfl⟩
  | bytes3 f => exact ⟨f (hiLo b2 b1), wordBytes (hiLo b2 b1), rest, .bytes3, by rw [wordBytes_hiLo]; rfl⟩

theorem readOperands_eq_ok_iff {op : Byte} {t : Template} {rest tail : List Byte} {i : Instr} :
    readOperands op rest t = .ok (i, tail) ↔ ∃ operands, t.Reads i operands ∧ rest = operands ++ tail := by
  constructor
  · intro h
    match t, rest, h with
    | .bytes1 _, _, rfl => exact ⟨[], .bytes1, rfl⟩
    | .bytes2 _, nn :: _, rfl => exact ⟨[nn], .bytes2, rfl⟩
    | .bytes3 _, ll :: hh :: _, rfl =>
      exact ⟨wordBytes (hiLo hh ll), .bytes3, by rw [wordBytes_hiLo]; rfl⟩
  · rintro ⟨operands, hreads, rfl⟩
    cases hreads with
    | bytes1 | bytes2 => rfl
    | bytes3 => simp [readOperands, wordBytes]

/-! ### The encoder alone -/

/-- Every instruction's encoding is of its length: the families of Laws/PerInstr.lean, put together (R80). -/
theorem encode_length (i : Instr) : Laws.EncodeLength.Statement i := by
  cases i with
  | adc o | sbc o | and o | ora o | eor o | cmp o | cpx o | cpy o | lda o | ldx o | ldy o =>
    exact fun _ => Laws.EncodeLength.operand_length
  | inc m | dec m | bit m | sta m | stx m | sty m => exact fun _ => Laws.EncodeLength.mem_length
  | asl o | lsr o | rol o | ror o => exact fun _ => Laws.EncodeLength.shift_length
  | unmapped op => exact Laws.EncodeLength.unmapped op
  | _ => rintro _ ⟨⟩; rfl

theorem instrLength_pos (i : Instr) : 1 ≤ instrLength i := by
  cases i <;> simp [instrLength]

/-- An encoding begins with an opcode byte. -/
theorem encode_ne_nil (i : Instr) : encode i ≠ some [] := by
  intro h
  have hlen := encode_length i [] h
  exact absurd (instrLength_pos i) (by simp [← hlen])

theorem encode_unmapped_eq_some_iff {op : Byte} {bytes : List Byte} :
    encode (.unmapped op) = some bytes ↔ op ∈ unmappedOpcodes ∧ bytes = [op] := by
  simp [encode, eq_comm]

/-- The modes with an opcode in R88 are the modes the operand lines of R122 give the mnemonic. -/
theorem encode_isSome (i : Instr) : (encode i).isSome = i.wf := by
  cases i with
  | adc o | sbc o | and o | ora o | eor o | cmp o | cpx o | cpy o | lda o | ldx o | ldy o =>
    cases o with
    | imm nn => rfl
    | mem m => cases m <;> rfl
  | inc m | dec m | bit m | sta m | stx m | sty m => cases m <;> rfl
  | asl o | lsr o | rol o | ror o =>
    cases o with
    | acc => rfl
    | mem m => cases m <;> rfl
  | unmapped op => simp [encode, Instr.wf, apply_ite]
  | _ => rfl

/-! ### The map by opcode (R87) and the list by mnemonic (R88) -/

/-- The bytes that R89 lists are empty cells of R87's table. -/
theorem templateOf_of_mem_unmappedOpcodes {op : Byte} (h : op ∈ unmappedOpcodes) :
    templateOf op = .bytes1 (.unmapped op) := by
  have hempty : (unmappedOpcodes.all fun b => (OpcodeMap.table.getD b.toNat none).isNone) = true := by decide
  rw [templateOf, Option.isNone_iff_eq_none.mp (List.all_eq_true.mp hempty op h), Option.getD_none]

/-- Each line of R88 stands in R87's table: the cell of its opcode reads the instruction back. The number of
operand bytes of each cell picks the constructor of `Reads`. -/
theorem reads_of_encode {i : Instr} {op : Byte} {operands : List Byte} (h : encode i = some (op :: operands)) :
    (templateOf op).Reads i operands := by
  cases i with
  | adc o | sbc o | and o | ora o | eor o | cmp o | cpx o | cpy o | lda o | ldx o | ldy o =>
    cases o with
    | imm nn => cases h; constructor
    | mem m => cases m <;> cases h <;> constructor
  | inc m | dec m | bit m | sta m | stx m | sty m => cases m <;> cases h <;> constructor
  | asl o | lsr o | rol o | ror o =>
    cases o with
    | acc => cases h; constructor
    | mem m => cases m <;> cases h <;> constructor
  | unmapped b =>
    obtain ⟨hb, heq⟩ := encode_unmapped_eq_some_iff.mp h
    cases heq
    exact templateOf_of_mem_unmappedOpcodes hb ▸ .bytes1
  | _ => cases h; constructor

/-- What the cells read, the first at opcode `n`, is encoded as the cell's opcode and the operand bytes; an empty cell reads
the unmapped byte (R89). -/
def CellsEncode : Nat → List (Option Template) → Prop
  | _, [] => True
  | n, cell :: cells =>
    (∀ i operands, (cell.getD (.bytes1 (.unmapped (BitVec.ofNat 8 n)))).Reads i operands →
      encode i = some (BitVec.ofNat 8 n :: operands)) ∧
    CellsEncode (n + 1) cells

/-- The cell `k` places on from opcode `n`. -/
theorem CellsEncode.encode_of_reads {n k : Nat} {cells : List (Option Template)} {i : Instr} {operands : List Byte}
    (hcells : CellsEncode n cells) (hk : k < cells.length)
    (h : ((cells.getD k none).getD (.bytes1 (.unmapped (BitVec.ofNat 8 (n + k))))).Reads i operands) :
    encode i = some (BitVec.ofNat 8 (n + k) :: operands) := by
  induction cells generalizing n k with
  | nil => exact absurd hk (Nat.not_lt_zero k)
  | cons cell cells ih =>
    obtain ⟨hcell, htail⟩ := hcells
    cases k with
    | zero => exact hcell i operands h
    | succ k =>
      have hshift : n + (k + 1) = n + 1 + k := by omega
      rw [hshift] at h ⊢
      exact ih htail (Nat.lt_of_succ_lt_succ hk) h

/-- Each cell of R87's table is a line of R88, or empty and a byte of R89: cell by cell, for every operand value. -/
theorem table_cellsEncode : CellsEncode 0 OpcodeMap.table := by
  repeat refine ⟨by rintro _ _ ⟨⟩; rfl, ?_⟩
  trivial

theorem table_length : OpcodeMap.table.length = 2 ^ 8 := by
  simp only [OpcodeMap.table, List.length_append]
  rfl

theorem encode_of_reads {op : Byte} {i : Instr} {operands : List Byte} (h : (templateOf op).Reads i operands) :
    encode i = some (op :: operands) := by
  have hop : BitVec.ofNat 8 (0 + op.toNat) = op := by rw [Nat.zero_add, BitVec.ofNat_toNat, BitVec.setWidth_eq]
  have hlt : op.toNat < OpcodeMap.table.length := table_length ▸ op.isLt
  have hcell := table_cellsEncode.encode_of_reads (i := i) (operands := operands) hlt
  rw [hop] at hcell
  exact hcell h

/-! ### Decoding is encoding backwards -/

theorem decode_cons_eq_ok_iff {op : Byte} {rest tail : List Byte} {i : Instr} :
    decode (op :: rest) = .ok (i, tail) ↔ ∃ operands, encode i = some (op :: operands) ∧ rest = operands ++ tail := by
  rw [decode_cons, readOperands_eq_ok_iff]
  exact exists_congr fun _ => and_congr_left fun _ => ⟨encode_of_reads, reads_of_encode⟩

theorem decode_eq_ok_iff {bytes tail : List Byte} {i : Instr} :
    decode bytes = .ok (i, tail) ↔ ∃ head, encode i = some head ∧ bytes = head ++ tail := by
  constructor
  · intro h
    cases bytes with
    | nil => cases h
    | cons op rest =>
      obtain ⟨operands, henc, rfl⟩ := decode_cons_eq_ok_iff.mp h
      exact ⟨op :: operands, henc, rfl⟩
  · rintro ⟨head, henc, rfl⟩
    cases head with
    | nil => exact absurd henc (encode_ne_nil i)
    | cons op operands => exact decode_cons_eq_ok_iff.mpr ⟨operands, henc, rfl⟩

/-- Settles O7: a well-formed instruction has an encoding, and the decoder reads it back. -/
theorem decodeOfEncodeIsTheInstruction : Obligations.DecodeOfEncodeIsTheInstruction := by
  intro i hwf
  obtain ⟨bytes, henc⟩ := Option.isSome_iff_exists.mp ((encode_isSome i).trans hwf)
  exact ⟨bytes, henc, fun _ => decode_eq_ok_iff.mpr ⟨bytes, henc, rfl⟩⟩

/-- Settles O8: the bytes read are the encoding, and what has an encoding is well-formed. -/
theorem encodeOfDecodeIsTheBytes : Obligations.EncodeOfDecodeIsTheBytes := by
  refine ⟨fun bytes i rest hdec => ?_, encode_isSome⟩
  obtain ⟨head, henc, hbytes⟩ := decode_eq_ok_iff.mp hdec
  exact ⟨(encode_isSome i).symm.trans (Option.isSome_of_eq_some henc), head, henc, hbytes⟩

/-- Settles O9: what decodes as unmapped has an encoding, and R89's bytes are the ones that have. -/
theorem unmappedBytesAreThoseListed : Obligations.UnmappedBytesAreThoseListed := by
  refine ⟨rfl, by decide, fun op rest => ?_⟩
  rw [decode_eq_ok_iff]
  constructor
  · rintro ⟨head, henc, -⟩
    exact (encode_unmapped_eq_some_iff.mp henc).1
  · intro hop
    exact ⟨[op], encode_unmapped_eq_some_iff.mpr ⟨hop, rfl⟩, rfl⟩

/-- Settles O10: the cell finds its operand bytes, and their number is the cell's and the encoding's. -/
theorem everyByteDecodesAndFixesItsLength : Obligations.EveryByteDecodesAndFixesItsLength := by
  intro op b1 b2 rest
  obtain ⟨i, operands, tail, hreads, hrest⟩ := (templateOf op).exists_reads b1 b2 rest
  have henc := encode_of_reads hreads
  have hlen : (op :: operands).length = instrLength i := encode_length i _ henc
  have hcell : instrLength i = (templateOf op).length := hlen.symm.trans hreads.length_eq
  refine ⟨i, tail, decode_cons_eq_ok_iff.mpr ⟨operands, henc, hrest⟩, ?_, hcell, instrLength_pos i, ?_⟩
  · rw [hrest, ← List.cons_append, ← hlen, List.drop_left]
  · rw [hcell]
    exact (templateOf op).length_le

/-- Settles O11: each byte string is the encoding of its instruction, with the bytes left over after it. -/
theorem sampleWordsDecode : Obligations.SampleWordsDecode := by
  refine ⟨?_, ?_, ?_, ?_, ?_, ?_, ?_, ?_, ?_, ?_⟩
  all_goals exact decode_eq_ok_iff.mpr ⟨_, rfl, rfl⟩

end Sys2Proof
end

section
/-! The operand byte of a branch (spec/30_encoding.md R92, spec/40_dispatch_addressing.md R114). -/

namespace Sys2Proof.Machine

@[simp] theorem lowByte_sext16 (off : Byte) : lowByte (sext16 off) = off := by
  ext k hk
  have : k < 16 := by omega
  simp [lowByte, sext16, BitVec.getElem_signExtend, hk, this]

theorem sext16_toNat (off : Byte) : ((sext16 off).toNat : Int) = off.toInt % 65536 := by
  have htoInt : (sext16 off).toInt = off.toInt := BitVec.toInt_signExtend_of_le (by decide)
  have hlt := (sext16 off).isLt
  rw [← htoInt, BitVec.toInt_eq_toNat_cond]
  split <;> omega

/-- The assembler gives a byte exactly when that byte, as an offset from the next instruction, is the target. -/
theorem branchOperand_eq_some_iff {addr target : Word} {off : Byte} :
    branchOperand addr target = some off ↔ addr + 2 + sext16 off = target := by
  have hdist : addr + 2 + sext16 off = target ↔ sext16 off = target - (addr + 2) := by
    rw [BitVec.eq_sub_iff_add_eq, BitVec.add_comm]
  rw [hdist, branchOperand]
  generalize target - (addr + 2) = d
  constructor
  · intro h
    obtain ⟨hd, hoff⟩ := Option.ite_none_right_eq_some.mp h
    rwa [Option.some.inj hoff] at hd
  · rintro rfl
    simp

/-- Reaching the target, in words and in the signed arithmetic of R114. -/
theorem add_sext16_eq_iff (addr target : Word) (off : Byte) :
    addr + 2 + sext16 off = target ↔ ((addr.toNat : Int) + 2 + off.toInt) % 65536 = target.toNat := by
  have hoff := sext16_toNat off
  rw [← BitVec.toNat_inj, BitVec.toNat_add, BitVec.toNat_add]
  change ((addr.toNat + 2) % 65536 + (sext16 off).toNat) % 65536 = target.toNat ↔ _
  omega

/-- Settles O12: the assembler's answer is some byte exactly when that byte reaches the target. -/
theorem branchOperandReachesItsTarget : Obligations.BranchOperandReachesItsTarget := by
  refine ⟨fun addr target off h => ?_, fun _ _ => branchOperand_eq_some_iff.mpr rfl, fun addr target hnone off h => ?_⟩
  · exact (add_sext16_eq_iff addr target off).mp (branchOperand_eq_some_iff.mp h)
  · have hsome := branchOperand_eq_some_iff.mpr ((add_sext16_eq_iff addr target off).mpr h)
    exact absurd (hnone.symm.trans hsome) (by simp)

end Sys2Proof.Machine
end

section
/-! Fetch, pointers, branches and indirect jumps (spec/40_dispatch_addressing.md R100, R103, R112 to R115;
spec/46_branch.md R220 to R228; spec/47_jump.md R236). -/

namespace Sys2Proof.Machine

/-! ### Pointers -/

/-- A pointer in the zero page: its high byte is at the next address, 0x0100 for a pointer at 0x00FF (D10). -/
theorem State.readWord_zext16_toNat (s : State) (p : Byte) :
    (s.readWord (zext16 p)).toNat =
      (s.readByte (BitVec.ofNat 16 (p.toNat + 1))).toNat * 256 + (s.readByte (BitVec.ofNat 16 p.toNat)).toNat := by
  have hp : zext16 p = BitVec.ofNat 16 p.toNat := (BitVec.ofNat_toNat 16 p).symm
  rw [hp, BitVec.ofNat_add]
  exact hiLo_toNat ..

/-- Settles O17: both pointers lie in the zero page; X is added, modulo 256, before the read, and Y to the word read. -/
theorem pointerModesReadTheirPointer : Obligations.PointerModesReadTheirPointer := by
  intro s nn
  refine ⟨⟨?_, rfl⟩, ?_, rfl⟩
  · have hp : (nn + s.x).toNat = (nn.toNat + s.x.toNat) % 256 := BitVec.toNat_add ..
    rw [← hp]
    exact s.readWord_zext16_toNat (nn + s.x)
  · rw [← s.readWord_zext16_toNat nn]
    exact add_zext16_toNat ..

/-- Settles O48: the word read is the one at the pointer, and only PC takes it. -/
theorem jmpIndirectLoadsPcFromItsPointer : Obligations.JmpIndirectLoadsPcFromItsPointer :=
  fun pointer s => ⟨_, exec_jmpInd s pointer, wordReadIsLittleEndian s pointer, s.setPc_changesOnly _⟩

/-! ### Branches -/

/-- PC after the common branch, in the signed arithmetic of R114. -/
theorem State.branch_pc_toNat (s : State) (cond : Bool) (off : Byte) :
    ((s.branch cond off).pc.toNat : Int) = ((s.pc.toNat : Int) + 2 + if cond then off.toInt else 0) % 65536 := by
  rw [State.branch_eq, State.setPc_pc]
  cases cond with
  | true => exact ((add_sext16_eq_iff s.pc _ off).mp rfl).symm
  | false => exact congrArg Int.ofNat (BitVec.toNat_add s.pc 2)

/-- An instruction that runs the common branch. -/
theorem branchesWhen_of_exec {s : State} {cond : Bool} {off : Byte} {i : Instr}
    (h : exec i s = .next (s.branch cond off)) : BranchesWhen cond off i s :=
  ⟨_, h, s.branch_pc_toNat cond off, s.branch_changesOnly cond off⟩

/-- Settles O46: each of the eight runs the common branch with its own condition. -/
theorem branchesFollowTheirFlag : Obligations.BranchesFollowTheirFlag := fun off s =>
  ⟨branchesWhen_of_exec (exec_bcc s off), branchesWhen_of_exec (exec_bcs s off),
    branchesWhen_of_exec (exec_beq s off), branchesWhen_of_exec (exec_bne s off),
    branchesWhen_of_exec (exec_bmi s off), branchesWhen_of_exec (exec_bpl s off),
    branchesWhen_of_exec (exec_bvc s off), branchesWhen_of_exec (exec_bvs s off)⟩

/-! ### Fetch -/

/-- The fetch gives what the decoder reads from the three bytes at PC: both go by the opcode's table entry. -/
theorem fetchInstr_of_decode {s : State} {i : Instr} {rest : List Byte}
    (h : decode [s.readByte s.pc, s.readByte (s.pc + 1), s.readByte (s.pc + 2)] = .ok (i, rest)) :
    s.fetchInstr = i := by
  rw [decode_cons] at h
  cases hentry : templateOf (s.readByte s.pc) <;> rw [hentry] at h <;> cases h
  case bytes1 => exact fetchInstr_bytes1 hentry
  case bytes2 => exact fetchInstr_bytes2 hentry
  case bytes3 => exact fetchInstr_bytes3 hentry

/-- Settles O5: the step is `exec` of the instruction fetched, which is the one decoded. -/
theorem stepRunsTheDecodedInstruction : Obligations.StepRunsTheDecodedInstruction := by
  intro s i rest h
  rw [step_eq_exec, fetchInstr_of_decode h]

end Sys2Proof.Machine
end

section
/-! Arithmetic (spec/41_arithmetic.md R130 to R139): the adder in signed and unsigned arithmetic, then ADC and SBC as the
two uses of it, and the increments and decrements. -/

namespace Sys2Proof.Machine

/-! ### The adder -/

/-- The overflow flag, in single bits as R130 writes it. -/
theorem add8_overflow_iff (a b : Byte) (cin : Bool) :
    (add8 a b cin).2.2 = true ↔
      a.getLsbD 7 = b.getLsbD 7 ∧ (add8 a b cin).1.getLsbD 7 ≠ a.getLsbD 7 := by
  rw [add8_overflow, Bool.and_eq_true, beq_iff_eq, bne_iff_ne]
  rfl

/-- The signed result is the signed sum, brought back to -128 to 127. -/
theorem add8_result_toInt (a b : Byte) (cin : Bool) :
    (add8 a b cin).1.toInt = (a.toInt + b.toInt + (cin.toNat : Int)).bmod 256 := by
  have hsum : (add8 a b cin).1.toInt = ((a.toNat + b.toNat + cin.toNat : Nat) : Int).bmod 256 := BitVec.toInt_ofNat ..
  rw [hsum, BitVec.toInt_eq_toNat_cond, BitVec.toInt_eq_toNat_cond, Int.bmod_def, Int.bmod_def]
  omega

/-- R130: V is set exactly when the signed sum leaves -128 to 127: the result's sign is then the wrong one, since the sum
is brought back by 256, and this takes two operands of one sign. -/
theorem add8_overflow_iff_signed (a b : Byte) (cin : Bool) :
    (add8 a b cin).2.2 = true ↔
      a.toInt + b.toInt + (cin.toNat : Int) < -128 ∨ 127 < a.toInt + b.toInt + (cin.toNat : Int) := by
  have hsigns : (add8 a b cin).2.2 = true ↔
      (a.toInt < 0 ↔ b.toInt < 0) ∧ ¬((add8 a b cin).1.toInt < 0 ↔ a.toInt < 0) := by
    simp only [add8_overflow, BitVec.msb_eq_toInt, Bool.and_eq_true, beq_iff_eq, bne_iff_ne, ne_eq, decide_eq_decide]
  have ha := a.le_toInt
  have ha' := a.toInt_lt
  have hb := b.le_toInt
  have hb' := b.toInt_lt
  have hc := cin.toNat_le
  rw [hsigns, add8_result_toInt, Int.bmod_def]
  omega

/-- R132: the inverted operand is `0xFF - m`. -/
theorem not_toNat (m : Byte) : (~~~m).toNat = 0xFF - m.toNat := BitVec.toNat_not

theorem not_toInt (m : Byte) : (~~~m).toInt = -1 - m.toInt := by
  have hm := m.isLt
  rw [BitVec.toInt_eq_toNat_cond, BitVec.toInt_eq_toNat_cond, not_toNat]
  split <;> split <;> omega

/-! The adder on an inverted operand (R132): the sum with `0xFF - m` is the difference plus 255 plus the carry. -/

theorem add8_not_result (a m : Byte) (cin : Bool) :
    ((add8 a (~~~m) cin).1.toNat : Int) = ((a.toNat : Int) - m.toNat - (1 - (cin.toNat : Int))) % 256 := by
  have hm := m.isLt
  rw [add8_result, not_toNat]
  omega

/-- R132: the carry is "not borrow". -/
theorem add8_not_carry_iff (a m : Byte) (cin : Bool) :
    (add8 a (~~~m) cin).2.1 = true ↔ 0 ≤ (a.toNat : Int) - m.toNat - (1 - (cin.toNat : Int)) := by
  have hm := m.isLt
  rw [add8_carry, not_toNat, decide_eq_true_iff]
  omega

/-- R132: V is set exactly when the signed difference leaves -128 to 127. -/
theorem add8_not_overflow_iff_signed (a m : Byte) (cin : Bool) :
    (add8 a (~~~m) cin).2.2 = true ↔
      a.toInt - m.toInt - (1 - (cin.toNat : Int)) < -128 ∨ 127 < a.toInt - m.toInt - (1 - (cin.toNat : Int)) := by
  rw [add8_overflow_iff_signed, not_toInt]
  omega

/-- R132: `(a + n) + (0xFF - n) + 1 = a + 256`. -/
theorem add8_not_undoes_add8 (a n : Byte) : (add8 (add8 a n false).1 (~~~n) true).1 = a := by
  apply BitVec.eq_of_toNat_eq
  have ha := a.isLt
  have hn := n.isLt
  rw [add8_result, add8_result, not_toNat, Bool.toNat_false, Bool.toNat_true]
  omega

/-! ### ADC and SBC -/

/-- An instruction that adds `m` and the carry to A. -/
theorem completes_of_addToA {i : Instr} {s : State} {k : Nat} {m : Byte}
    (h : exec i s = .next ((s.advance k).addToA m)) :
    Completes i s fun t =>
      t.a.toNat = (s.a.toNat + m.toNat + s.c.toNat) % 256 ∧ t.c = decide (s.a.toNat + m.toNat + s.c.toNat > 255) ∧
      (t.v = true ↔ s.a.getLsbD 7 = m.getLsbD 7 ∧ t.a.getLsbD 7 ≠ s.a.getLsbD 7) ∧
      ReflectsNZ t.a t ∧ PcPast k s t ∧ ChangesOnly [.a, .pc, .n, .v, .z, .c] s t :=
  ⟨_, h, add8_result .., add8_carry .., add8_overflow_iff .., reflectsNZ_of rfl rfl, pcPast_of rfl,
    ((s.advance_changesOnly k).trans ((s.advance k).addToA_changesOnly m)).mono (by decide)⟩

/-- Settles O18: ADC adds its operand to A. -/
theorem adcAddsWithCarry : Obligations.AdcAddsWithCarry :=
  fun o s => completes_of_addToA (exec_adc s o)

/-- Settles O19: SBC adds its operand inverted. -/
theorem sbcAddsTheInvertedOperand : Obligations.SbcAddsTheInvertedOperand := by
  intro o s
  rw [← not_toNat]
  exact completes_of_addToA (exec_sbc s o)

/-- Settles O20: the adder's flags in signed arithmetic, on the operand and on its inverse. -/
theorem overflowIsTheSignedRangeAndCarryIsNotBorrow : Obligations.OverflowIsTheSignedRangeAndCarryIsNotBorrow :=
  fun o s =>
    ⟨⟨_, exec_adc s o, add8_overflow_iff_signed ..⟩,
      ⟨_, exec_sbc s o, add8_not_overflow_iff_signed .., add8_not_result .., add8_not_carry_iff ..⟩⟩

/-- Settles O21: A goes through the adder twice, with `nn` and C = 0, then with `nn` inverted and C = 1. -/
theorem sbcUndoesAdc : Obligations.SbcUndoesAdc :=
  fun nn s => ⟨_, exec_adc _ _, _, exec_sbc _ _, add8_not_undoes_add8 s.a nn⟩

/-- Settles O22: neither the operand nor the adder reads D. -/
theorem decimalFlagChangesNoArithmetic : Obligations.DecimalFlagChangesNoArithmetic := by
  intro o s f
  refine ⟨⟨_, exec_adc s o, ?_⟩, _, exec_sbc s o, ?_⟩
  · rw [exec_adc, State.setD_operand]
    rfl
  · rw [exec_sbc, State.setD_operand]
    rfl

/-! ### Increments and decrements -/

theorem add_one_toNat (u : Byte) : (u + 1).toNat = (u.toNat + 1) % 256 := BitVec.toNat_add ..

theorem sub_one_toNat (u : Byte) : (u - 1).toNat = (u.toNat + 255) % 256 := by bv_omega

/-- The byte of a number it is known to read as. -/
theorem ofNat_of_toNat_eq {r : Byte} {k : Nat} (h : r.toNat = k) : BitVec.ofNat 8 k = r := by
  rw [← h, BitVec.ofNat_toNat, BitVec.setWidth_eq]

/-- A read-modify-write of the byte at the effective address. -/
theorem completes_of_writeBack {i : Instr} {s : State} {k : Nat} {ea : Word} {r : Byte}
    (h : exec i s = .next ((s.advance k).writeBack ea r)) :
    Completes i s fun t =>
      StoresByte ea r s t ∧ ReflectsNZ r t ∧ PcPast k s t ∧ ChangesOnly [.mem, .pc, .n, .z] s t :=
  ⟨_, h, storesByte_of rfl, reflectsNZ_of rfl rfl, pcPast_of rfl,
    ((s.advance_changesOnly k).trans ((s.advance k).writeBack_changesOnly ea r)).mono (by decide)⟩

/-- Settles O23: both write back the byte read, plus or minus 1. -/
theorem incDecWrapTheMemoryByte : Obligations.IncDecWrapTheMemoryByte := by
  intro m s
  dsimp only
  rw [ofNat_of_toNat_eq (add_one_toNat _), ofNat_of_toNat_eq (sub_one_toNat _)]
  exact ⟨completes_of_writeBack (exec_inc s m), completes_of_writeBack (exec_dec s m)⟩

/-- Settles O24: each is `advance 1`, its register's new value, and SetNZ of it. -/
theorem indexIncDecWrap : Obligations.IndexIncDecWrap := fun s =>
  ⟨⟨_, exec_inx s, add_one_toNat s.x, reflectsNZ_of rfl rfl, pcPast_of rfl, exec_changesOnly (exec_inx s)⟩,
    ⟨_, exec_iny s, add_one_toNat s.y, reflectsNZ_of rfl rfl, pcPast_of rfl, exec_changesOnly (exec_iny s)⟩,
    ⟨_, exec_dex s, sub_one_toNat s.x, reflectsNZ_of rfl rfl, pcPast_of rfl, exec_changesOnly (exec_dex s)⟩,
    ⟨_, exec_dey s, sub_one_toNat s.y, reflectsNZ_of rfl rfl, pcPast_of rfl, exec_changesOnly (exec_dey s)⟩⟩

end Sys2Proof.Machine
end

section
/-! Bitwise logic, shifts and rotates (spec/42_bitwise_shift.md R150 to R158): each instruction as a use of the common
shape of its family, and ROL as a rotation of C and A together. -/

namespace Sys2Proof.Machine

/-! ### AND, ORA, EOR and BIT -/

/-- An instruction that leaves in A the byte with the bits `bit`. -/
theorem completes_of_loadA {i : Instr} {s : State} {k : Nat} {r : Byte} {bit : Nat → Bool}
    (h : exec i s = .next ((s.advance k).loadA r)) (hbits : ∀ j < 8, r.getLsbD j = bit j) :
    Completes i s fun t =>
      (∀ j < 8, t.a.getLsbD j = bit j) ∧ ReflectsNZ t.a t ∧ PcPast k s t ∧ ChangesOnly [.a, .pc, .n, .z] s t :=
  ⟨_, h, hbits, reflectsNZ_of rfl rfl, pcPast_of rfl,
    ((s.advance_changesOnly k).trans ((s.advance k).loadA_changesOnly r)).mono (by decide)⟩

/-- Settles O25: each loads A with the bit vector operation of its name, which acts on single bits. -/
theorem logicCombinesBits : Obligations.LogicCombinesBits := fun o s =>
  ⟨completes_of_loadA (exec_and s o) fun _ _ => BitVec.getLsbD_and,
    completes_of_loadA (exec_ora s o) fun _ _ => BitVec.getLsbD_or,
    completes_of_loadA (exec_eor s o) fun _ _ => BitVec.getLsbD_xor⟩

theorem and_beq_zero_iff (a u : Byte) :
    ((a &&& u) == 0) = true ↔ ∀ k < 8, (a.getLsbD k && u.getLsbD k) = false := by
  rw [beq_iff_eq, BitVec.eq_of_getLsbD_eq_iff]
  simp only [BitVec.getLsbD_and, BitVec.ofNat_eq_ofNat, BitVec.getLsbD_zero]

/-- Settles O26: Z by the bits of `A & m`; N, V and the rest are read off the next state. -/
theorem bitTestsTheMemoryByte : Obligations.BitTestsTheMemoryByte := fun m s =>
  ⟨_, exec_bit s m, and_beq_zero_iff .., rfl, rfl, pcPast_of rfl, exec_changesOnly (exec_bit s m)⟩

/-! ### The byte operations of the shifts and rotates, in natural numbers -/

theorem aslByte_toNat (m : Byte) (cin : Bool) : (aslByte m cin).1.toNat = (2 * m.toNat) % 256 := by
  simp [aslByte, Nat.shiftLeft_eq, Nat.mul_comm]

theorem lsrByte_toNat (m : Byte) (cin : Bool) : (lsrByte m cin).1.toNat = m.toNat / 2 := by
  simp [lsrByte, Nat.shiftRight_eq_div_pow]

/-- R157: the vacated bit is clear in the shifted byte, so `|` adds the old carry. -/
theorem rolByte_toNat (m : Byte) (cin : Bool) : (rolByte m cin).1.toNat = (2 * m.toNat + cin.toNat) % 256 := by
  have hadd : (rolByte m cin).1 = m <<< 1 + (BitVec.ofBool cin).setWidth 8 := by
    refine (BitVec.add_eq_or_of_and_eq_zero _ _ ?_).symm
    ext k hk
    cases k <;> simp
  rw [hadd]
  cases cin <;> simp [Nat.shiftLeft_eq, Nat.mul_comm]

/-- R158: as in R157, the vacated bit now being bit 7. -/
theorem rorByte_toNat (m : Byte) (cin : Bool) : (rorByte m cin).1.toNat = m.toNat / 2 + 128 * cin.toNat := by
  have hadd : (rorByte m cin).1 = m >>> 1 + (BitVec.ofBool cin).setWidth 8 <<< 7 := by
    refine (BitVec.add_eq_or_of_and_eq_zero _ _ ?_).symm
    ext k hk
    obtain hk7 | rfl : k < 7 ∨ k = 7 := by omega
    · simp [hk7]
    · simp
  have hm := m.isLt
  rw [hadd]
  cases cin with
  | false => simp [Nat.shiftRight_eq_div_pow]
  | true =>
    simp [Nat.shiftRight_eq_div_pow]
    omega

/-! ### The common shape (R154) -/

/-- A shift or rotate of A: the result `r` and the bit shifted out, as the byte operation gives them. -/
theorem completes_of_shift_acc {i : Instr} {s : State} {k r : Nat} {out : Bool} {f : Byte → Bool → Byte × Bool}
    (h : exec i s = .next ((s.advance k).shift .acc f)) (hr : (f s.a s.c).1.toNat = r) (hout : (f s.a s.c).2 = out) :
    Completes i s fun t =>
      t.a.toNat = r ∧ t.c = out ∧ ReflectsNZ t.a t ∧ PcPast k s t ∧ ChangesOnly [.a, .pc, .n, .z, .c] s t :=
  ⟨_, h, hr, hout, reflectsNZ_of rfl rfl, pcPast_of rfl,
    ((s.advance_changesOnly k).trans ((s.advance k).shift_changesOnly .acc f)).mono (by decide)⟩

/-- A shift or rotate of the byte at the effective address, which is resolved after moving PC (R104). -/
theorem completes_of_shift_mem {i : Instr} {s : State} {k r : Nat} {out : Bool} {m : MemMode}
    {f : Byte → Bool → Byte × Bool} (h : exec i s = .next ((s.advance k).shift (.mem m) f))
    (hr : (f (s.readByte (s.effAddr m)) s.c).1.toNat = r) (hout : (f (s.readByte (s.effAddr m)) s.c).2 = out) :
    Completes i s fun t =>
      StoresByte (s.effAddr m) (BitVec.ofNat 8 r) s t ∧ t.c = out ∧ ReflectsNZ (BitVec.ofNat 8 r) t ∧ PcPast k s t ∧
      ChangesOnly [.mem, .pc, .n, .z, .c] s t := by
  have hframe := (s.advance_changesOnly k).trans ((s.advance k).shift_changesOnly (.mem m) f)
  rw [State.shift_mem, State.advance_effAddr] at h hframe
  rw [ofNat_of_toNat_eq hr]
  exact ⟨_, h, storesByte_of rfl, hout, reflectsNZ_of rfl rfl, pcPast_of rfl,
    ChangesOnly.mono (ps := [.pc, .mem, .n, .z, .c]) hframe (by decide)⟩

/-- Settles O27: the common shape with the byte operations of ASL and LSR. -/
theorem shiftsMoveTheOuterBitToCarry : Obligations.ShiftsMoveTheOuterBitToCarry := fun s m =>
  ⟨completes_of_shift_acc (exec_asl s .acc) (aslByte_toNat ..) rfl,
    completes_of_shift_mem (exec_asl s (.mem m)) (aslByte_toNat ..) rfl,
    completes_of_shift_acc (exec_lsr s .acc) (lsrByte_toNat ..) rfl,
    completes_of_shift_mem (exec_lsr s (.mem m)) (lsrByte_toNat ..) rfl⟩

/-- Settles O28: the common shape with the byte operations of ROL and ROR. -/
theorem rotatesGoThroughCarry : Obligations.RotatesGoThroughCarry := fun s m =>
  ⟨completes_of_shift_acc (exec_rol s .acc) (rolByte_toNat ..) rfl,
    completes_of_shift_mem (exec_rol s (.mem m)) (rolByte_toNat ..) rfl,
    completes_of_shift_acc (exec_ror s .acc) (rorByte_toNat ..) rfl,
    completes_of_shift_mem (exec_ror s (.mem m)) (rorByte_toNat ..) rfl⟩

/-! ### ROL as a rotation of nine bits -/

theorem rotateLeft_rotateLeft {w : Nat} (x : BitVec w) (m n : Nat) :
    (x.rotateLeft m).rotateLeft n = x.rotateLeft (n + m) := by
  refine BitVec.eq_of_getMsbD_eq fun k hk => ?_
  have hmod := Nat.mod_lt (n + k) (Nat.zero_lt_of_lt hk)
  simp [BitVec.getMsbD_rotateLeft, hk, hmod, Nat.add_assoc, Nat.add_left_comm]

/-- Any number of whole turns. -/
theorem rotateLeft_width_mul {w : Nat} (x : BitVec w) (n : Nat) : x.rotateLeft (w * n) = x := by
  refine BitVec.eq_of_getMsbD_eq fun k hk => ?_
  simp [BitVec.getMsbD_rotateLeft, hk, Nat.mod_eq_of_lt]

theorem eq_and_eq_of_cons_eq {c c' : Bool} {a a' : Byte} (h : BitVec.cons c a = BitVec.cons c' a') :
    c = c' ∧ a = a' :=
  ⟨by simpa using congrArg BitVec.msb h, by simpa using congrArg (BitVec.setWidth 8) h⟩

/-- With C put above A, ROL moves every bit up by one, and the top bit, C, to the vacated bit 0 (R157). -/
theorem cons_rolByte (a : Byte) (c : Bool) :
    BitVec.cons (rolByte a c).2 (rolByte a c).1 = (BitVec.cons c a).rotateLeft 1 := by
  ext k hk
  cases k with
  | zero => simp [BitVec.getElem_rotateLeft, BitVec.getElem_cons, rolByte]
  | succ k =>
    have hk8 : k ≠ 8 := by omega
    by_cases hk7 : k = 7
    · subst hk7
      simp [BitVec.getElem_rotateLeft, BitVec.getElem_cons, rolByte]
    · simp [BitVec.getElem_rotateLeft, BitVec.getElem_cons, rolByte, hk8, hk7]

/-- A part that is as before need not be listed in the frame. -/
theorem ChangesOnly.of_same {p : Part} {ps : List Part} {s t : State} (h : ChangesOnly (p :: ps) s t)
    (hp : p.Same s t) : ChangesOnly ps s t := by
  intro q hq
  by_cases hqp : q = p
  · exact hqp ▸ hp
  · exact h q (List.not_mem_cons_of_ne_of_not_mem hqp hq)

/-- `n` ROLs of A rotate C and A by `n` and touch no other part but PC, N and Z. -/
theorem rolTimes_rotates (n : Nat) (s : State) :
    ∃ t, rolTimes n s = .next t ∧ BitVec.cons t.c t.a = (BitVec.cons s.c s.a).rotateLeft n ∧
      ChangesOnly [.a, .c, .pc, .n, .z] s t := by
  induction n generalizing s with
  | zero => exact ⟨s, rfl, (rotateLeft_width_mul _ 0).symm, by simp [changesOnly_iff]⟩
  | succ n ih =>
    obtain ⟨t, ht, hrot, hframe⟩ := ih ((s.advance 1).shift .acc rolByte)
    refine ⟨t, ht, ?_, ((exec_changesOnly (exec_rol s .acc)).trans hframe).mono (by decide)⟩
    calc
      BitVec.cons t.c t.a = (BitVec.cons (rolByte s.a s.c).2 (rolByte s.a s.c).1).rotateLeft n := hrot
      _ = ((BitVec.cons s.c s.a).rotateLeft 1).rotateLeft n := by rw [cons_rolByte]
      _ = (BitVec.cons s.c s.a).rotateLeft (n + 1) := rotateLeft_rotateLeft ..

/-- Settles O29: nine ROLs turn the nine bits of C and A all the way round. -/
theorem nineRolsRestoreAAndCarry : Obligations.NineRolsRestoreAAndCarry := by
  intro s
  obtain ⟨t, ht, hrot, hframe⟩ := rolTimes_rotates 9 s
  obtain ⟨hc, ha⟩ := eq_and_eq_of_cons_eq (hrot.trans (rotateLeft_width_mul _ 1))
  exact ⟨t, ht, ha, hc, (hframe.of_same ha).of_same hc⟩

end Sys2Proof.Machine
end

section
/-! Compare (spec/43_compare.md R170 to R173): the comparator's flags in natural numbers, and the comparator as the adder on
the inverted operand with the carry in (R132). -/

namespace Sys2Proof.Machine

/-! ### The comparator -/

theorem beq_eq_decide_toNat_eq (r m : Byte) : (r == m) = decide (r.toNat = m.toNat) := by
  rw [Bool.eq_iff_iff, beq_iff_eq, decide_eq_true_iff, BitVec.toNat_inj]

/-- R170: the difference modulo 256, without a negative number. -/
theorem sub_toNat (r m : Byte) : (r - m).toNat = (r.toNat + 256 - m.toNat) % 256 := by
  have hm := m.isLt
  rw [BitVec.toNat_sub]
  omega

theorem sub_msb (r m : Byte) : (r - m).msb = ((r.toNat + 256 - m.toNat) % 256).testBit 7 := by
  rw [← sub_toNat]
  rfl

/-- An instruction that compares `r` with `m`. -/
theorem completes_of_compare {i : Instr} {s : State} {k : Nat} {r m : Byte}
    (h : exec i s = .next ((s.advance k).compare r m)) :
    Completes i s fun t =>
      t.c = decide (r.toNat ≥ m.toNat) ∧ t.z = decide (r.toNat = m.toNat) ∧
      t.n = ((r.toNat + 256 - m.toNat) % 256).testBit 7 ∧ PcPast k s t ∧ ChangesOnly [.pc, .n, .z, .c] s t :=
  ⟨_, h, State.compare_c .., beq_eq_decide_toNat_eq .., sub_msb .., pcPast_of rfl,
    (s.advance_changesOnly k).trans ((s.advance k).compare_changesOnly r m)⟩

/-- Settles O30: the comparator on A, X and Y. -/
theorem compareSetsFlagsFromTheDifference : Obligations.CompareSetsFlagsFromTheDifference := fun o s =>
  ⟨completes_of_compare (exec_cmp s o), completes_of_compare (exec_cpx s o), completes_of_compare (exec_cpy s o)⟩

/-! ### The comparator and the subtraction -/

/-- R132 with C = 1: `a + (0xFF - m) + 1` is the difference modulo 256. -/
theorem add8_not_true_result (a m : Byte) : (add8 a (~~~m) true).1 = a - m := by
  apply BitVec.eq_of_toNat_eq
  have hm := m.isLt
  rw [add8_result, not_toNat, Bool.toNat_true, sub_toNat]
  omega

/-- R132 with C = 1: the subtraction borrows nothing exactly when `a >= m`. -/
theorem add8_not_true_carry (a m : Byte) : (add8 a (~~~m) true).2.1 = decide (m.toNat ≤ a.toNat) := by
  rw [Bool.eq_iff_iff, add8_not_carry_iff, Bool.toNat_true, decide_eq_true_iff]
  omega

/-- R170: the comparator's C, Z and N are those of adding the inverted operand with the carry in. -/
theorem State.compare_flags_eq_addToA_not (s : State) (m : Byte) (hc : s.c = true) :
    (s.compare s.a m).c = (s.addToA (~~~m)).c ∧ (s.compare s.a m).z = (s.addToA (~~~m)).z ∧
    (s.compare s.a m).n = (s.addToA (~~~m)).n := by
  have hz : (s.a == m) = (s.a - m == 0) := by
    have ha := s.a.isLt
    have hm := m.isLt
    have h0 : (0 : Byte).toNat = 0 := rfl
    rw [beq_eq_decide_toNat_eq, beq_eq_decide_toNat_eq, sub_toNat, decide_eq_decide, h0]
    omega
  rw [State.addToA_eq, hc, add8_not_true_result, add8_not_true_carry]
  exact ⟨rfl, hz, rfl⟩

@[simp] theorem State.setC_operand (s : State) (f : Bool) (o : Operand) : (s.setC f).operand o = s.operand o := by
  cases o with
  | imm nn => rfl
  | mem m => cases m <;> rfl

/-- Settles O31: SBC adds the inverted operand to the A that CMP compares, and C = 1 changes neither A nor the operand. -/
theorem compareAgreesWithSbc : Obligations.CompareAgreesWithSbc := by
  intro o s
  refine ⟨_, exec_cmp s o, _, exec_sbc _ o, ?_⟩
  rw [State.setC_operand]
  exact State.compare_flags_eq_addToA_not ((s.setC true).advance (1 + operandSize o)) (s.operand o) rfl

end Sys2Proof.Machine
end

section
/-! Loads, stores and transfers (spec/44_load_store_transfer.md R180 to R191): the common shape of the instructions that
copy a byte into a register and set N and Z from it, and that of the stores. -/

namespace Sys2Proof.Machine

variable {i : Instr} {s : State} {k : Nat} {r : Byte}

/-- An instruction of `k` bytes that copies `r` into the register `reg` and ends in SetNZ of `r`. -/
theorem completes_of_setNZ {u : State} (reg : State → Byte) (h : exec i s = .next (u.setNZ r))
    (hreg : reg (u.setNZ r) = r) (hpc : u.pc = s.pc + BitVec.ofNat 16 k) :
    Completes i s fun t => reg t = r ∧ ReflectsNZ r t ∧ PcPast k s t ∧ ChangesOnly (writtenParts i) s t :=
  ⟨_, h, hreg, reflectsNZ_of rfl rfl, pcPast_of hpc, exec_changesOnly h⟩

/-- Settles O32: the operand, which moving PC does not change (R104), goes into A, X or Y. -/
theorem loadsCopyTheOperand : Obligations.LoadsCopyTheOperand := fun o s =>
  ⟨completes_of_setNZ State.a (exec_lda s o) rfl rfl,
    completes_of_setNZ State.x (exec_ldx s o) rfl rfl,
    completes_of_setNZ State.y (exec_ldy s o) rfl rfl⟩

/-- An instruction of `k` bytes that stores `r` at `ea`. -/
theorem completes_of_writeByte {ea : Word} (h : exec i s = .next ((s.advance k).writeByte ea r)) :
    Completes i s fun t => StoresByte ea r s t ∧ PcPast k s t ∧ ChangesOnly [.mem, .pc] s t :=
  ⟨_, h, storesByte_of rfl, pcPast_of rfl,
    ((s.advance_changesOnly k).trans ((s.advance k).writeByte_changesOnly ea r)).mono (by decide)⟩

/-- Settles O33: A, X or Y is stored at the effective address, which moving PC does not change. -/
theorem storesWriteTheRegister : Obligations.StoresWriteTheRegister := fun m s =>
  ⟨completes_of_writeByte (exec_sta s m), completes_of_writeByte (exec_stx s m),
    completes_of_writeByte (exec_sty s m)⟩

/-- Settles O34: the source is A, X or Y in place of a load's operand. -/
theorem transfersCopyTheRegister : Obligations.TransfersCopyTheRegister := fun s =>
  ⟨completes_of_setNZ State.x (exec_tax s) rfl rfl, completes_of_setNZ State.y (exec_tay s) rfl rfl,
    completes_of_setNZ State.a (exec_txa s) rfl rfl, completes_of_setNZ State.a (exec_tya s) rfl rfl⟩

/-- Settles O35: TSX is a transfer as in O34; TXS moves PC and sets SP, with no SetNZ (D12). -/
theorem stackPointerTransfers : Obligations.StackPointerTransfers := fun s =>
  ⟨completes_of_setNZ State.x (exec_tsx s) rfl rfl, _, exec_txs s, rfl, pcPast_of rfl, exec_changesOnly (exec_txs s)⟩

end Sys2Proof.Machine
end

section
/-! Subroutines and traps (spec/45_stack_subroutine_interrupt.md R200 to R213; spec/60_exceptions.md R267, R268): the bytes
that a word push and a trap entry leave in the stack page, and the pulls that undo them. -/

namespace Sys2Proof.Machine

/-! ### What the pushes leave in the stack page -/

/-- A stack address as the spec's sums write it: the page base plus an offset given as a natural number. -/
theorem ofNat_add_eq_stackAddr {q : Byte} {j : Nat} (h : q.toNat = j) : BitVec.ofNat 16 (0x0100 + j) = stackAddr q :=
  h ▸ ofNat_add_sp_eq_stackAddr q

/-! The slots of the three pushes of a trap entry, and of the three pulls of a trap return, as sums modulo 256. -/

variable (q : Byte)

theorem ofNat_pushSlot_zero : BitVec.ofNat 16 (0x0100 + (q.toNat + 256 - 0) % 256) = stackAddr q :=
  ofNat_add_eq_stackAddr (by bv_omega)

theorem ofNat_pushSlot_one : BitVec.ofNat 16 (0x0100 + (q.toNat + 256 - 1) % 256) = stackAddr (q - 1) :=
  ofNat_add_eq_stackAddr (by bv_omega)

theorem ofNat_pushSlot_two : BitVec.ofNat 16 (0x0100 + (q.toNat + 256 - 2) % 256) = stackAddr (q - 1 - 1) :=
  ofNat_add_eq_stackAddr (by bv_omega)

theorem ofNat_pullSlot_one : BitVec.ofNat 16 (0x0100 + (q.toNat + 1) % 256) = stackAddr (q + 1) :=
  ofNat_add_eq_stackAddr (by bv_omega)

theorem ofNat_pullSlot_two : BitVec.ofNat 16 (0x0100 + (q.toNat + 2) % 256) = stackAddr (q + 1 + 1) :=
  ofNat_add_eq_stackAddr (by bv_omega)

theorem ofNat_pullSlot_three : BitVec.ofNat 16 (0x0100 + (q.toNat + 3) % 256) = stackAddr (q + 1 + 1 + 1) :=
  ofNat_add_eq_stackAddr (by bv_omega)

/-- The second of two pushes goes to another slot than the first, for every SP. -/
theorem stackAddr_ne_stackAddr_sub_one : stackAddr q ≠ stackAddr (q - 1) := by
  rw [Ne, stackAddr_inj]
  bv_omega

/-- The third of three pushes goes to another slot than the first, for every SP. -/
theorem stackAddr_ne_stackAddr_sub_one_sub_one : stackAddr q ≠ stackAddr (q - 1 - 1) := by
  rw [Ne, stackAddr_inj]
  bv_omega

variable (s : State)

theorem State.readByte_pushWord_sp (w : Word) : (s.pushWord w).readByte (stackAddr s.sp) = lowByte w := by
  rw [State.readByte_pushWord, if_neg (stackAddr_ne_stackAddr_sub_one s.sp), if_pos rfl]

theorem State.readByte_pushWord_sp_sub_one (w : Word) :
    (s.pushWord w).readByte (stackAddr (s.sp - 1)) = highByte w := by
  rw [State.readByte_pushWord, if_pos rfl]

/-- Trap entry reads as its last push reads: B and PC are no memory. -/
theorem State.readByte_enterTrap (w : Word) :
    s.enterTrap.readByte w =
      if w = stackAddr (s.sp - 1 - 1) then (s.setB true).p else ((s.setB true).pushWord s.pc).readByte w := by
  rw [State.enterTrap_eq]
  exact State.readByte_push _ _ w

theorem State.readByte_enterTrap_sp : s.enterTrap.readByte (stackAddr s.sp) = lowByte s.pc := by
  rw [State.readByte_enterTrap, if_neg (stackAddr_ne_stackAddr_sub_one_sub_one s.sp)]
  exact (s.setB true).readByte_pushWord_sp s.pc

theorem State.readByte_enterTrap_sp_sub_one : s.enterTrap.readByte (stackAddr (s.sp - 1)) = highByte s.pc := by
  rw [State.readByte_enterTrap, if_neg (stackAddr_ne_stackAddr_sub_one (s.sp - 1))]
  exact (s.setB true).readByte_pushWord_sp_sub_one s.pc

theorem State.readByte_enterTrap_sp_sub_one_sub_one :
    s.enterTrap.readByte (stackAddr (s.sp - 1 - 1)) = (s.setB true).p := by
  rw [State.readByte_enterTrap, if_pos rfl]

theorem State.enterTrap_sp : s.enterTrap.sp = s.sp - 1 - 1 - 1 := rfl

theorem State.enterTrap_b : s.enterTrap.b = true := rfl

theorem State.enterTrap_pc : s.enterTrap.pc = s.readWord Config.irqVector := by
  rw [State.enterTrap_eq]
  rfl

/-- The status byte's value is the sum of its bits, which is below 256 (R26). -/
theorem State.p_toNat :
    s.p.toNat = s.n.toNat * 128 + s.v.toNat * 64 + s.b.toNat * 16 + s.d.toNat * 8 + s.i.toNat * 4 + s.z.toNat * 2 +
      s.c.toNat := by
  have hn := s.n.toNat_le; have hv := s.v.toNat_le; have hb := s.b.toNat_le; have hd := s.d.toNat_le
  have hi := s.i.toNat_le; have hz := s.z.toNat_le; have hc := s.c.toNat_le
  rw [s.p_eq_ofNat, BitVec.toNat_ofNat]
  omega

/-- Settles O39: the return address is the word that JSR pushes, and jumping changes no byte. -/
theorem jsrPushesTheReturnAddress : Obligations.JsrPushesTheReturnAddress := by
  intro target s
  refine ⟨_, exec_jsr s target, ?_⟩
  have hret : (s.pc + 3).toNat = (s.pc.toNat + 3) % 65536 := BitVec.toNat_add ..
  dsimp only
  rw [ofNat_pushSlot_zero, ofNat_pushSlot_one, ← hret, ← lowByte_toNat, ← highByte_toNat]
  refine ⟨congrArg _ ((s.advance 3).readByte_pushWord_sp _), congrArg _ ((s.advance 3).readByte_pushWord_sp_sub_one _),
    fun w h0 h1 => ?_, ?_, rfl, exec_changesOnly (exec_jsr s target)⟩
  · exact (s.advance 3).pushWord_keepsOutside (s.pc + 3) w
      (List.not_mem_cons_of_ne_of_not_mem h0 (List.not_mem_cons_of_ne_of_not_mem h1 List.not_mem_nil))
  · rw [State.setPc_sp, State.pushWord_sp, State.advance_sp]
    bv_omega

/-- Settles O42: trap entry from the state past BRK's one byte; its three slots are distinct for every SP. -/
theorem brkPushesItsFrameAndTakesTheVector : Obligations.BrkPushesItsFrameAndTakesTheVector := by
  intro s
  refine ⟨_, exec_brk s, ?_⟩
  have hret : (s.pc + 1).toNat = (s.pc.toNat + 1) % 65536 := BitVec.toNat_add ..
  dsimp only
  rw [ofNat_pushSlot_zero, ofNat_pushSlot_one, ofNat_pushSlot_two, ← hret, ← lowByte_toNat, ← highByte_toNat]
  refine ⟨congrArg _ (s.advance 1).readByte_enterTrap_sp, congrArg _ (s.advance 1).readByte_enterTrap_sp_sub_one,
    ?_, fun w h0 h1 h2 => ?_, ?_, (s.advance 1).enterTrap_b, ?_, exec_changesOnly (exec_brk s)⟩
  · exact (congrArg _ (s.advance 1).readByte_enterTrap_sp_sub_one_sub_one).trans (s.setB true).p_toNat
  · exact (s.advance 1).enterTrap_keepsOutside w
      (List.not_mem_cons_of_ne_of_not_mem h0 (List.not_mem_cons_of_ne_of_not_mem h1
        (List.not_mem_cons_of_ne_of_not_mem h2 List.not_mem_nil)))
  · rw [State.enterTrap_sp, State.advance_sp]
    bv_omega
  · rw [State.enterTrap_pc]
    exact hiLo_toNat (s.readByte 0xFFFF) (s.readByte 0xFFFE)

/-- An instruction that may write SP stores, if it stores at all, in the stack page. -/
theorem storedAddrs_eq_stackAddr {i : Instr} (hi : Part.sp ∈ writtenParts i) :
    ∀ w ∈ storedAddrs s i, ∃ q, w = stackAddr q := by
  cases i with
  | pha | php => exact List.forall_mem_singleton.2 ⟨_, rfl⟩
  | jsr target => exact List.forall_mem_cons.2 ⟨⟨_, rfl⟩, List.forall_mem_singleton.2 ⟨_, rfl⟩⟩
  | brk =>
    exact List.forall_mem_cons.2 ⟨⟨_, rfl⟩, List.forall_mem_cons.2 ⟨⟨_, rfl⟩, List.forall_mem_singleton.2 ⟨_, rfl⟩⟩⟩
  | txs | pla | plp | rts | rti => exact List.forall_mem_nil _
  | asl o | lsr o | rol o | ror o => cases o <;> simp [writtenParts, shiftPart] at hi
  | _ => simp [writtenParts] at hi

/-- Settles O45: a byte that is stored to has a stack address, which is neither below the page nor above it. -/
theorem stackWritesStayInTheStackPage : Obligations.StackWritesStayInTheStackPage := by
  intro i s t hi h w hw
  obtain ⟨-, hkeeps, -⟩ := memoryHasOnlyItsWriters i s t h
  refine hkeeps w fun hmem => ?_
  obtain ⟨q, rfl⟩ := storedAddrs_eq_stackAddr s hi w hmem
  have := q.isLt
  rw [stackAddr_toNat] at hw
  omega

/-! ### The pulls -/

/-- RTS in the words of the spec: the word pulled is the new PC, with no correction (R210). -/
theorem exec_rts_popWord : exec .rts s = .next (s.popWord.2.setPc s.popWord.1) := rfl

/-- Settles O40: the word pulled has the byte of SP + 1 above that of SP + 2. -/
theorem rtsResumesAtThePulledAddress : Obligations.RtsResumesAtThePulledAddress := by
  intro s
  refine ⟨_, exec_rts s, ?_⟩
  dsimp only
  rw [ofNat_pullSlot_one, ofNat_pullSlot_two]
  refine ⟨hiLo_toNat _ _, ?_, exec_changesOnly (exec_rts s)⟩
  rw [State.setPc_sp, State.setSp_sp]
  bv_omega

/-- Settles O43: the flags are the bits of the first byte pulled, PC the word of the other two. -/
theorem rtiRestoresFlagsAndPc : Obligations.RtiRestoresFlagsAndPc := by
  intro s
  refine ⟨_, exec_rti s, ?_⟩
  dsimp only
  rw [ofNat_pullSlot_one, ofNat_pullSlot_two, ofNat_pullSlot_three, State.returnFromTrap_eq]
  refine ⟨rfl, rfl, rfl, rfl, rfl, rfl, rfl, hiLo_toNat _ _, ?_, exec_changesOnly (exec_rti s)⟩
  rw [State.setPc_sp, State.setP_sp, State.setSp_sp]
  bv_omega

/-! ### A pull undoes a push -/

/-- The status byte of `s`, written to the flags of any state, gives the flags of `s` (R26, R27). -/
theorem State.setP_p_flags (t : State) :
    (t.setP s.p).n = s.n ∧ (t.setP s.p).v = s.v ∧ (t.setP s.p).b = s.b ∧ (t.setP s.p).d = s.d ∧
    (t.setP s.p).i = s.i ∧ (t.setP s.p).z = s.z ∧ (t.setP s.p).c = s.c := by
  obtain ⟨h7, h6, -, h4, h3, h2, h1, h0⟩ := s.p_getLsbD
  exact ⟨h7, h6, h4, h3, h2, h1, h0⟩

/-- Settles O38: `Pop()` after `Push(v)` gives `v` and SP back, and neither A nor a flag is part of the pull. -/
theorem pullUndoesPush : Obligations.PullUndoesPush := by
  intro s u p
  constructor
  · exact ⟨_, exec_pha s, _, exec_pla _, State.pop_push_fst _ _, State.pop_push_sp (s.advance 1) s.a⟩
  · refine ⟨_, exec_php s, _, exec_plp _, State.pop_push_sp (s.advance 1) s.p, ?_⟩
    have hpulled : (((s.advance 1).push s.p).setP p).readByte (stackAddr (s.sp - 1 + 1)) = s.p :=
      State.pop_push_fst _ _
    rw [State.setP_sp, State.push_sp, State.advance_sp, hpulled]
    exact s.setP_p_flags _

/-- `PopWord()` after `PushWord(w)` gives `w` (R202, R203). -/
theorem State.popWord_pushWord_fst (w : Word) : (s.pushWord w).popWord.1 = w := by
  rw [State.popWord_fst, State.pushWord_sp, BitVec.sub_add_cancel, BitVec.sub_add_cancel,
    State.readByte_pushWord_sp_sub_one, State.readByte_pushWord_sp, hiLo_high_low]

/-- `PopWord()` after `PushWord(w)` restores SP (R202, R203). -/
theorem State.popWord_pushWord_sp (w : Word) : (s.pushWord w).popWord.2.sp = s.sp := by
  rw [State.popWord_snd, State.setSp_sp, State.pushWord_sp, BitVec.sub_add_cancel, BitVec.sub_add_cancel]

/-- Settles O41: the jump in between changes PC alone, so RTS pulls the word that JSR pushed. -/
theorem rtsUndoesJsr : Obligations.RtsUndoesJsr := by
  intro target s
  refine ⟨_, exec_jsr s target, _, exec_rts_popWord _, ?_⟩
  have hframe := (exec_changesOnly (exec_jsr s target)).trans (exec_changesOnly (exec_rts_popWord _))
  have hsp := (s.advance 3).popWord_pushWord_sp (s.pc + 3)
  exact ⟨pcPast_of ((s.advance 3).popWord_pushWord_fst _),
    ChangesOnly.of_same (p := .sp) (hframe.mono (by simp [writtenParts])) hsp⟩

/-- Trap return pulls all seven flags, so what they are before does not matter (R212). -/
theorem State.returnFromTrap_setP (p : Byte) : (s.setP p).returnFromTrap = s.returnFromTrap := rfl

/-- Trap return on the frame of a trap entry: the flags, SP and PC that the entry had after setting B. -/
theorem State.returnFromTrap_enterTrap :
    s.enterTrap.returnFromTrap = ((s.enterTrap.setSp s.sp).setP (s.setB true).p).setPc s.pc := by
  rw [State.returnFromTrap_eq, State.enterTrap_sp]
  simp only [BitVec.sub_add_cancel, State.readByte_enterTrap_sp_sub_one_sub_one,
    State.readByte_enterTrap_sp_sub_one, State.readByte_enterTrap_sp, hiLo_high_low]

/-- A state that a trap entry's parts alone set apart from `s`, given SP and the pulled status byte of `s` back: the flags
are those of `s` but B, which the entry set before it pushed them. -/
theorem ChangesOnly.setP_setB_p {s t : State} (h : ChangesOnly [.mem, .sp, .pc, .b] s t) (w : Word) :
    ChangesOnly [.mem, .pc, .b] s (((t.setSp s.sp).setP (s.setB true).p).setPc w) := by
  obtain ⟨hn, hv, -, hd, hi, hz, hc⟩ := (s.setB true).setP_p_flags (t.setSp s.sp)
  intro part hpart
  cases part with
  | a => exact h .a (by decide)
  | x => exact h .x (by decide)
  | y => exact h .y (by decide)
  | sp => rfl
  | n => exact hn
  | v => exact hv
  | d => exact hd
  | i => exact hi
  | z => exact hz
  | c => exact hc
  | mem | pc | b => simp at hpart

/-- Settles O44: trap return on BRK's own frame, whose status byte holds the flags of before with B set. -/
theorem rtiUndoesBrk : Obligations.RtiUndoesBrk := by
  intro s p
  refine ⟨_, exec_brk s, _, exec_rti _, ?_⟩
  rw [State.returnFromTrap_setP, State.returnFromTrap_enterTrap]
  obtain ⟨-, -, hb, -⟩ := ((s.advance 1).setB true).setP_p_flags ((s.advance 1).enterTrap.setSp s.sp)
  exact ⟨pcPast_of rfl, hb, (exec_changesOnly (exec_brk s)).setP_setB_p (s.pc + 1)⟩

end Sys2Proof.Machine
end

section

/-! JMP absolute (spec/47_jump.md R235). -/

namespace Sys2Proof.Machine

/-- Settles O47: the operand itself goes into PC, by `setPc`, whose frame is the rest. -/
theorem jmpAbsoluteLoadsPc : Obligations.JmpAbsoluteLoadsPc :=
  fun target s => ⟨_, exec_jmpAbs s target, s.setPc_pc target, s.setPc_changesOnly target⟩

end Sys2Proof.Machine
end

section
/-! Completion of every step, and the instructions that only move PC by one and perhaps write one flag
(spec/60_exceptions.md R260, R261; spec/48_flag_nop.md R240 to R248). -/

namespace Sys2Proof.Machine

/-- Both kinds of instruction answer a next state: the ones that move PC past their bytes alone, and the transfers. -/
theorem exists_exec_eq_next (i : Instr) (s : State) : ∃ t, exec i s = .next t := by
  cases hi : isTransfer i with
  | true => exact (exec_transfer_changesOnly s hi).imp fun _ h => h.1
  | false => exact (exec_changesOnly_advance s hi).imp fun _ h => h.1

/-- Settles O6: the step is `exec` of the fetched instruction. -/
theorem everyStepAnswersANextState : Obligations.EveryStepAnswersANextState :=
  ⟨exists_exec_eq_next, fun s => exists_exec_eq_next s.fetchInstr s⟩

/-- An instruction that is no transfer of control and leaves the value `f` in the flag `flag`. -/
theorem completes_of_flag {i : Instr} {s t : State} {f : Bool} (flag : State → Bool) (h : exec i s = .next t)
    (hflag : flag t = f) (hi : isTransfer i = false) :
    Completes i s fun t => flag t = f ∧ PcPast (instrLength i) s t ∧ ChangesOnly (writtenParts i) s t :=
  ⟨t, h, hflag, otherInstructionsMovePcPastTheirBytes i s t hi h, exec_changesOnly h⟩

/-- Settles O49: each of the seven is one byte long and has its one flag in its "Written by" list. -/
theorem flagInstructionsWriteOneFlag : Obligations.FlagInstructionsWriteOneFlag := fun s =>
  ⟨completes_of_flag State.c (exec_clc s) rfl rfl, completes_of_flag State.d (exec_cld s) rfl rfl,
    completes_of_flag State.i (exec_cli s) rfl rfl, completes_of_flag State.v (exec_clv s) rfl rfl,
    completes_of_flag State.c (exec_sec s) rfl rfl, completes_of_flag State.d (exec_sed s) rfl rfl,
    completes_of_flag State.i (exec_sei s) rfl rfl⟩

/-- Settles O50: both are `advance 1`, the byte of an unmapped opcode playing no part. -/
theorem nopAndUnmappedOnlyMovePc : Obligations.NopAndUnmappedOnlyMovePc := fun op s =>
  ⟨⟨_, exec_nop s, pcPast_of rfl, s.advance_changesOnly 1⟩,
    ⟨_, exec_unmapped s op, pcPast_of rfl, s.advance_changesOnly 1⟩⟩

end Sys2Proof.Machine
end

section
/-! The host's writes (spec/70_reset_and_hazards.md R294 to R296): the word and status setters, and a program's bytes as a
sequence of byte writes in which a later byte covers an earlier one. -/

namespace Sys2Proof.Machine

variable (s : State)

/-! ### The word setter -/

theorem add_one_ne_self (a : Word) : a + 1 ≠ a := by bv_omega

theorem State.readByte_setWord_low (a w : Word) : (s.setWord a w).readByte a = lowByte w := by
  rw [State.setWord, State.readByte_writeByte_ne _ _ (add_one_ne_self a).symm, State.readByte_writeByte_same]

theorem State.readByte_setWord_high (a w : Word) : (s.setWord a w).readByte (a + 1) = highByte w :=
  State.readByte_writeByte_same ..

theorem State.readWord_setWord (a w : Word) : (s.setWord a w).readWord a = w := by
  rw [State.readWord, State.readByte_setWord_low, State.readByte_setWord_high, hiLo_high_low]

theorem State.setWord_keepsOutside (a w : Word) : KeepsOutside [a, a + 1] s (s.setWord a w) :=
  (s.writeByte_keepsOutside a (lowByte w)).trans ((s.writeByte a (lowByte w)).writeByte_keepsOutside (a + 1) _)

theorem State.setWord_changesOnly (a w : Word) : ChangesOnly [.mem] s (s.setWord a w) :=
  ((s.writeByte_changesOnly a (lowByte w)).trans (State.writeByte_changesOnly _ (a + 1) _)).mono (by decide)

/-! ### The status setter -/

/-- The status byte reads back bit by bit, bit 5 as 0 (R27). -/
theorem State.p_setP (u : Byte) : (s.setP u).p = u &&& 0xDF := by
  obtain ⟨h7, h6, h5, h4, h3, h2, h1, h0⟩ := (s.setP u).p_getLsbD
  refine BitVec.eq_of_getLsbD_eq fun k hk => ?_
  rw [BitVec.getLsbD_and]
  interval_cases k
  exacts [h0.trans (Bool.and_true _).symm, h1.trans (Bool.and_true _).symm, h2.trans (Bool.and_true _).symm,
    h3.trans (Bool.and_true _).symm, h4.trans (Bool.and_true _).symm, h5.trans (Bool.and_false _).symm,
    h6.trans (Bool.and_true _).symm, h7.trans (Bool.and_true _).symm]

/-- Settles O57: a register setter's element and frame are read off its fields; a word is two byte writes. -/
theorem hostWritesSetTheNamedElement : Obligations.HostWritesSetTheNamedElement := by
  intro s a w u
  refine ⟨⟨storesByte_of rfl, s.writeByte_changesOnly a u⟩, ?word, ?_, ?_, ?_, ?_, ?_, s.p_setP u, ?_⟩
  case word =>
    refine ⟨?_, ?_, s.readWord_setWord a w, fun q ha ha1 => ?_, s.setWord_changesOnly a w⟩
    · exact (congrArg _ (s.readByte_setWord_low a w)).trans (lowByte_toNat w)
    · exact (congrArg _ (s.readByte_setWord_high a w)).trans (highByte_toNat w)
    · exact s.setWord_keepsOutside a w q
        (List.not_mem_cons_of_ne_of_not_mem ha (List.not_mem_cons_of_ne_of_not_mem ha1 List.not_mem_nil))
  all_goals simp [changesOnly_iff, State.hostWrite, State.setStatus]

/-! ### A program's bytes -/

theorem State.writeBytes_cons (a : Word) (v : Byte) (bytes : List Byte) :
    s.writeBytes a (v :: bytes) = (s.writeByte a v).writeBytes (a + 1) bytes := rfl

variable {s} {a w : Word} {bytes : List Byte}

/-- Where the byte `k` of the rest falls, counted from the address of the first byte. -/
theorem add_one_add_mod (a : Word) (k : Nat) : ((a + 1).toNat + k) % 65536 = (a.toNat + (k + 1)) % 65536 := by
  rw [BitVec.toNat_add]
  change ((a.toNat + 1) % 65536 + k) % 65536 = _
  omega

theorem State.writeBytes_changesOnly (s : State) (a : Word) (bytes : List Byte) :
    ChangesOnly [.mem] s (s.writeBytes a bytes) := by
  induction bytes generalizing s a with
  | nil => simp [changesOnly_iff, State.writeBytes]
  | cons v rest ih => exact ((s.writeByte_changesOnly a v).trans (ih _ (a + 1))).mono (by decide)

/-- An address on which no byte falls reads as before. -/
theorem State.readByte_writeBytes_of_forall_ne
    (h : ∀ k < bytes.length, (a.toNat + k) % 65536 ≠ w.toNat) : (s.writeBytes a bytes).readByte w = s.readByte w := by
  induction bytes generalizing s a with
  | nil => rfl
  | cons v rest ih =>
    have hrest : ∀ k < rest.length, ((a + 1).toNat + k) % 65536 ≠ w.toNat := fun k hk =>
      add_one_add_mod a k ▸ h (k + 1) (Nat.succ_lt_succ hk)
    have hwa : w ≠ a := by
      rintro rfl
      exact h 0 (Nat.succ_pos _) (Nat.mod_eq_of_lt w.isLt)
    rw [State.writeBytes_cons, ih hrest, State.readByte_writeByte_ne _ _ hwa]

/-- An address reads the byte `k` that falls on it when no later byte does. -/
theorem State.readByte_writeBytes_of_last {k : Nat} {u : Byte} (hu : bytes[k]? = some u)
    (hk : (a.toNat + k) % 65536 = w.toNat)
    (hlast : ∀ j, k < j → j < bytes.length → (a.toNat + j) % 65536 ≠ w.toNat) :
    (s.writeBytes a bytes).readByte w = u := by
  induction bytes generalizing s a k with
  | nil => cases hu
  | cons v rest ih =>
    rw [State.writeBytes_cons]
    cases k with
    | zero =>
      obtain rfl : v = u := Option.some.inj hu
      obtain rfl : a = w := BitVec.eq_of_toNat_eq ((Nat.mod_eq_of_lt a.isLt).symm.trans hk)
      have hrest : ∀ j < rest.length, ((a + 1).toNat + j) % 65536 ≠ a.toNat := fun j hj =>
        add_one_add_mod a j ▸ hlast (j + 1) (Nat.succ_pos j) (Nat.succ_lt_succ hj)
      rw [State.readByte_writeBytes_of_forall_ne hrest, State.readByte_writeByte_same]
    | succ k =>
      exact ih hu ((add_one_add_mod a k).trans hk) fun j hkj hj =>
        add_one_add_mod a j ▸ hlast (j + 1) (Nat.succ_lt_succ hkj) (Nat.succ_lt_succ hj)

/-- Settles O58: by induction on the bytes, each write being covered by the later ones that fall on its address. -/
theorem loadProgramPlacesItsBytes : Obligations.LoadProgramPlacesItsBytes := fun s bytes addr _ =>
  ⟨fun _ _ => State.readByte_writeBytes_of_last, State.readByte_writeBytes_of_forall_ne,
    s.writeBytes_changesOnly addr bytes⟩

end Sys2Proof.Machine
end

section
/-! The end of a run (spec/70_reset_and_hazards.md R298, D25): a step that leaves PC as it was. -/

namespace Sys2Proof.Machine

variable {s t : State} {maxSteps : Nat}

theorem runEnd_of_step_pc_eq (hpos : 0 < maxSteps) (h : step s = .next t) (hpc : t.pc = s.pc) :
    runEnd maxSteps s = some (0, s) := by
  obtain ⟨k, rfl⟩ := Nat.exists_eq_add_one.mpr hpos
  simp [runEnd, h, hpc]

theorem runEnd_of_fetchInstr {i : Instr} (hpos : 0 < maxSteps) (hi : s.fetchInstr = i) (h : exec i s = .next t)
    (hpc : t.pc = s.pc) : runEnd maxSteps s = some (0, s) :=
  runEnd_of_step_pc_eq hpos (by rw [step_eq_exec, hi, h]) hpc

/-- An instruction that leaves the whole state unchanged. -/
theorem step_eq_self_and_runEnd {i : Instr} (hpos : 0 < maxSteps) (hi : s.fetchInstr = i) (h : exec i s = .next s) :
    step s = .next s ∧ runEnd maxSteps s = some (0, s) :=
  ⟨by rw [step_eq_exec, hi, h], runEnd_of_fetchInstr hpos hi h rfl⟩

/-- The offset 0xFE is -2, which takes a branch back to its own first byte. -/
theorem State.branch_true_eq_self (s : State) : s.branch true 0xFE = s := by
  have htarget : s.pc + 2 + sext16 0xFE = s.pc := by
    rw [BitVec.add_assoc, show (2 : Word) + sext16 0xFE = 0#16 from by decide, BitVec.add_zero]
  rw [State.branch_eq, if_pos rfl, htarget]
  rfl

/-- The eight branches, each with the condition it tests (R221 to R228). -/
def State.branchConditions (s : State) (off : Byte) : List (Instr × Bool) :=
  [(.bcc off, !s.c), (.bcs off, s.c), (.beq off, s.z), (.bne off, !s.z),
    (.bmi off, s.n), (.bpl off, !s.n), (.bvc off, !s.v), (.bvs off, s.v)]

theorem exec_of_mem_branchConditions {i : Instr} {cond : Bool} {off : Byte} (h : (i, cond) ∈ s.branchConditions off) :
    exec i s = .next (s.branch cond off) := by
  have hall : ∀ p ∈ s.branchConditions off, exec p.1 s = .next (s.branch p.2 off) := by
    simp only [State.branchConditions, List.forall_mem_cons]
    exact ⟨exec_bcc s off, exec_bcs s off, exec_beq s off, exec_bne s off, exec_bmi s off, exec_bpl s off,
      exec_bvc s off, exec_bvs s off, List.forall_mem_nil _⟩
  exact hall (i, cond) h

/-- Settles O59: a jump or a taken branch to itself sets PC to what it was; of the other three only PC is compared. -/
theorem transfersToThemselvesEndARun : Obligations.TransfersToThemselvesEndARun := by
  intro s maxSteps hpos
  refine ⟨fun hi => ?_, fun hmem => ?_, fun p hi hp => ?_, fun hi => ?_, fun hi hvec => ?_⟩
  · exact step_eq_self_and_runEnd hpos hi (exec_jmpAbs s s.pc)
  · have hexec := exec_of_mem_branchConditions (off := 0xFE) hmem
    rw [s.branch_true_eq_self] at hexec
    exact step_eq_self_and_runEnd hpos rfl hexec
  · exact runEnd_of_fetchInstr hpos hi (exec_jmpInd s p) hp
  · exact runEnd_of_fetchInstr hpos hi (exec_jsr s s.pc) rfl
  · exact runEnd_of_fetchInstr hpos hi (exec_brk s) ((s.advance 1).enterTrap_pc.trans hvec)

end Sys2Proof.Machine
end
